-- ==== Sys2Proof/Word.lean ====
section
/-! DEFINITION. The words of CANBT (spec/00_scope.md R9, R10) and the small index types of its fields. -/

namespace Sys2Proof

/-- A 32-bit register or command word (R7 row WORD). -/
abbrev Word := BitVec 32

/-- A 16-bit message-object field (spec/10_state.md R35). -/
abbrev Half := BitVec 16

/-- A decoded result field of 11 bits (spec/10_state.md R41). -/
abbrev ResField := BitVec 11

/-- The STATUS register's 8 bits (spec/60_exceptions.md R200). -/
abbrev StatusByte := BitVec 8

/-- The INST field of a command word, 4 bits (spec/30_encoding.md R80). -/
abbrev InstNum := BitVec 4

/-- A message object's place in the table: object number minus one (objects are numbered 1..32,
spec/10_state.md R35). -/
abbrev ObjIdx := Fin 32

/-- A timing-table index `q - 4` for q quanta per bit (spec/40_solver.md R100). -/
abbrev QuantaIdx := Fin 16

end Sys2Proof
end

