-- ==== Sys2Proof/Machine/Regs.lean ====
section
/-! DEFINITION. The data types of one CAN controller: its eight registers (spec/10_state.md R20) and a message
object (R35). What the registers do is in Machine/Operands.lean and Machine/Ops.lean. -/

namespace Sys2Proof.Machine

/-- The eight registers of the block that CANBT reads or writes (spec/10_state.md R20). -/
inductive Reg where
  | ctl
  | bit
  | brpe
  | if1crq
  | if1cmsk
  | if1arb1
  | if1arb2
  | if1mctl
deriving DecidableEq, Repr, Inhabited

/-- One 32-bit value per register of R20: the stored register contents of one instance, and also the parameter
RESET_VALUES (R8, R50). In the stored contents `if1crq` holds MNUM only; BUSY is computed from the pending
transfer (R36). -/
structure RegFile where
  ctl : Word
  bit : Word
  brpe : Word
  if1crq : Word
  if1cmsk : Word
  if1arb1 : Word
  if1arb2 : Word
  if1mctl : Word
deriving DecidableEq, Repr, Inhabited

/-- One message object (spec/10_state.md R35): arbitration and control fields, and the mask and data fields that
CANBT never transfers and that are opaque values. Eight data bytes follow from R31; the spec gives the mask no
width, and its 32 bits are a DESIGN CHOICE (log 23). -/
structure MsgObject where
  arb1 : Half
  arb2 : Half
  mctl : Half
  mask : Word
  data : BitVec 64
deriving DecidableEq, Repr, Inhabited

/-- The controller state machine's states (spec/10_state.md R43). -/
inductive Phase where
  | reset
  | configuring
  | initialized
  | enabled
  | disabled
  | released
deriving DecidableEq, Repr, Inhabited

end Sys2Proof.Machine
end

