-- ==== Sys2Proof/Config.lean ====
section
/-! DEFINITION. The parameters of spec/00_scope.md R8 as plain data, their defaults, their constraints, the values
R7 fixes, and the free values. A claim that names no parameter value holds for every one (R8), so the parameters
are held in State (field `params`, never written; log 3). -/

namespace Sys2Proof.Config

open Sys2Proof.Machine

/-- PD_MAX, the largest pre-divisor (R7). -/
def pdMax : Nat := 1024

/-- QPB_MIN, the least number of quanta per bit (R7). -/
def qpbMin : Nat := 4

/-- MAX_RATIO = PD_MAX × QPB_MAX (R7). -/
def maxRatio : Nat := 19456

/-- N_OBJECTS (R7). -/
def nObjects : Nat := 32

/-- A timing-table entry in quanta (spec/10_state.md R39). -/
structure TimingEntry where
  seg1 : Nat
  seg2 : Nat
  sjw : Nat
deriving DecidableEq, Repr, Inhabited

/-- The legal ranges of an entry (R7, spec/40_solver.md R101). -/
abbrev TimingEntry.Legal (e : TimingEntry) : Prop :=
  2 ≤ e.seg1 ∧ e.seg1 ≤ 16 ∧ 1 ≤ e.seg2 ∧ e.seg2 ≤ 8 ∧ 1 ≤ e.sjw ∧ e.sjw ≤ 4

/-- The parameter TEARDOWN (R8, spec/41_controller.md R165). -/
inductive Teardown where
  | leave
  | disable
  | powerOff
deriving DecidableEq, Repr, Inhabited

/-- The parameters a model takes as arguments (R8). POLL_LIMIT is none for ∞. -/
structure Params where
  nInst : Nat
  bases : Vector Word 16
  table : Vector TimingEntry 16
  defaultBit : Word
  writeProtect : Bool
  pollLimit : Option Nat
  teardown : Teardown
  resetValues : RegFile
deriving DecidableEq, Repr

/-- The default TIMING_TABLE (spec/40_solver.md R100), q = 4 to 19. -/
def defaultTable : Vector TimingEntry 16 :=
  #v[⟨2, 1, 1⟩, ⟨3, 1, 1⟩, ⟨3, 2, 2⟩, ⟨4, 2, 2⟩, ⟨4, 3, 3⟩, ⟨5, 3, 3⟩, ⟨5, 4, 4⟩, ⟨6, 4, 4⟩,
     ⟨6, 5, 4⟩, ⟨7, 5, 4⟩, ⟨7, 6, 4⟩, ⟨8, 6, 4⟩, ⟨8, 7, 4⟩, ⟨9, 7, 4⟩, ⟨9, 8, 4⟩, ⟨10, 8, 4⟩]

/-- BASE(i) = 0x4004_0000 + 0x1000·i by default (R8). -/
def defaultBases : Vector Word 16 :=
  #v[0x40040000, 0x40041000, 0x40042000, 0x40043000, 0x40044000, 0x40045000, 0x40046000, 0x40047000,
     0x40048000, 0x40049000, 0x4004A000, 0x4004B000, 0x4004C000, 0x4004D000, 0x4004E000, 0x4004F000]

/-- The default RESET_VALUES (spec/10_state.md R50). -/
def defaultResetValues : RegFile where
  ctl := 0x00000001
  bit := 0x00002301
  brpe := 0x00000000
  if1crq := 0x00000001
  if1cmsk := 0x00000000
  if1arb1 := 0x00000000
  if1arb2 := 0x00000000
  if1mctl := 0x00000000

/-- The parameter values State.reset holds: the defaults of R8. The two OPEN ones are DESIGN CHOICES (log 3):
DEFAULT_BIT is the test vectors' 0x2301 (spec/41_controller.md R131), TEARDOWN is DISABLE, one of the two
outcomes the source names. -/
def defaultParams : Params where
  nInst := 2
  bases := defaultBases
  table := defaultTable
  defaultBit := 0x2301
  writeProtect := true
  pollLimit := none
  teardown := .disable
  resetValues := defaultResetValues

/-- The free value of the whole message-object table after a PERIPH_RESET or POWER_OFF, which the spec leaves
unspecified (spec/10_state.md R35, R50; spec/41_controller.md R165): no body, applied to State's counter (log 5). -/
opaque freeObjects : Nat → Vector MsgObject 32

/-- The free value of the eight registers after POWER_OFF (spec/41_controller.md R165): no body (log 5). -/
opaque freeRegs : Nat → RegFile

end Sys2Proof.Config
end

