-- ==== Sys2Proof/Syntax.lean ====
section
/-! DEFINITION. The command set of CANBT (spec/30_encoding.md R81), and what the host presents (R80, R86). -/

namespace Sys2Proof

/-- The nine commands (R81), each for an instance number INST. Operands are not fields of the word: they are in
ARG0 and ARG1 (R82). -/
inductive Instr where
  | construct (n : InstNum)
  | solve (n : InstNum)
  | setBitRate (n : InstNum)
  | changeBaudRate (n : InstNum)
  | initMsgObjects (n : InstNum)
  | enable (n : InstNum)
  | disable (n : InstNum)
  | getBitTiming (n : InstNum)
  | release (n : InstNum)
deriving DecidableEq, Repr

/-- The instance a command is for (field INST, R80). -/
def Instr.inst : Instr → InstNum
  | .construct n => n
  | .solve n => n
  | .setBitRate n => n
  | .changeBaudRate n => n
  | .initMsgObjects n => n
  | .enable n => n
  | .disable n => n
  | .getBitTiming n => n
  | .release n => n

/-- One host presentation: a word for CMD, with the operand registers written before it (spec/60_exceptions.md
R215); `none` leaves the operand register unchanged (spec/30_encoding.md R86). -/
structure HostCmd where
  word : Word
  arg0 : Option Word
  arg1 : Option Word
deriving DecidableEq, Repr

end Sys2Proof
end

