-- ==== Sys2Proof/WellFormed.lean ====
section
/-! DEFINITION. Well-formed instructions (spec/30_encoding.md R83) and parameters (spec/00_scope.md R8,
spec/92_eei_decisions.md "Open parameters"). -/

namespace Sys2Proof

/-- A command is well formed for N_INSTANCES = `nInst` when its instance exists (R83). -/
def Instr.wf (nInst : Nat) (i : Instr) : Bool := decide (i.inst.toNat < nInst)

namespace Config

open Sys2Proof.Machine

/-- The constraints on DEFAULT_BIT (spec/41_controller.md R131): bits 31:16 = 0, TSEG1 raw ≥ 1, bit 15 = 0. -/
abbrev DefaultBitLegal (b : Word) : Prop :=
  b.toNat < 2 ^ 16 ∧ 1 ≤ (b.extractLsb' 8 4).toNat ∧ (b.extractLsb' 12 4).toNat ≤ 7

/-- Every RESET_VALUES entry lies within its register's implemented bits (spec/92_eei_decisions.md, row
RESET_VALUES; the masks of spec/10_state.md R22 to R34), of which PERIPH_RESET stores the writable ones (R21). -/
abbrev ResetValuesLegal (v : RegFile) : Prop :=
  v.ctl &&& 0x000000EF = v.ctl ∧ v.bit &&& 0x0000FFFF = v.bit ∧ v.brpe &&& 0x0000000F = v.brpe ∧
  v.if1crq &&& 0x0000803F = v.if1crq ∧ v.if1cmsk &&& 0x000000FF = v.if1cmsk ∧
  v.if1arb1 &&& 0x0000FFFF = v.if1arb1 ∧ v.if1arb2 &&& 0x0000FFFF = v.if1arb2 ∧
  v.if1mctl &&& 0x0000FF8F = v.if1mctl

/-- Every base is a multiple of 4, and the 4 KiB windows of the instances are disjoint
(spec/92_eei_decisions.md, row BASE(i); spec/20_memory.md R60, R64). -/
abbrev BasesLegal (nInst : Nat) (b : Vector Word 16) : Prop :=
  (∀ i : Fin 16, b[i].toNat % 4 = 0) ∧
  ∀ i j : Fin 16, i < j → j.val < nInst →
    b[i].toNat + 0x1000 ≤ b[j].toNat ∨ b[j].toNat + 0x1000 ≤ b[i].toNat


/-- The parameter values the spec admits (R8, spec/40_solver.md R101, spec/41_controller.md R131). -/
structure Params.Wf (p : Params) : Prop where
  instances : 1 ≤ p.nInst ∧ p.nInst ≤ 16
  bases : BasesLegal p.nInst p.bases
  table : ∀ k : QuantaIdx, p.table[k].Legal
  defaultBit : DefaultBitLegal p.defaultBit
  pollLimit : 1 ≤ p.pollLimit.getD 1
  resetValues : ResetValuesLegal p.resetValues

end Config

end Sys2Proof
end

