-- ==== Sys2Proof/Decode.lean ====
section
/-! DEFINITION. Decoding a command word (spec/30_encoding.md R80 to R85), total on any 32-bit word, and its encoder;
the assembler's line as a host presentation (R86). -/

namespace Sys2Proof

/-- Why a command word is illegal (R84). -/
inductive DecodeError where
  /-- a bit of w[31:8] is set -/
  | reservedBits
  /-- OPC is 0x0 or 0xA..0xF -/
  | reservedOpcode
  /-- INST is not below N_INSTANCES -/
  | noSuchInst
deriving DecidableEq, Repr

/-- The OPC field, w[3:0] (R80). -/
def opcField (w : Word) : BitVec 4 := w.extractLsb' 0 4

/-- The INST field, w[7:4] (R80). -/
def instField (w : Word) : InstNum := w.extractLsb' 4 4

/-- The reserved field, w[31:8] (R80). -/
def reservedField (w : Word) : BitVec 24 := w.extractLsb' 8 24

/-- The opcode map (R81); the other seven opcodes are reserved (R84). -/
def opcodeMap (opc : BitVec 4) (n : InstNum) : Option Instr :=
  match opc.toNat with
  | 0x1 => some (.construct n)
  | 0x2 => some (.solve n)
  | 0x3 => some (.setBitRate n)
  | 0x4 => some (.changeBaudRate n)
  | 0x5 => some (.initMsgObjects n)
  | 0x6 => some (.enable n)
  | 0x7 => some (.disable n)
  | 0x8 => some (.getBitTiming n)
  | 0x9 => some (.release n)
  | _ => none

/-- Decode a command word for N_INSTANCES = `nInst` (R83): every word is legal or illegal by name (R84). -/
def decode (nInst : Nat) (w : Word) : Except DecodeError Instr :=
  if reservedField w = 0 then
    match opcodeMap (opcField w) (instField w) with
    | none => .error .reservedOpcode
    | some i => if i.wf nInst then .ok i else .error .noSuchInst
  else .error .reservedBits

/-- The opcode of a command (R81). -/
def Instr.opc : Instr → BitVec 4
  | .construct _ => 0x1
  | .solve _ => 0x2
  | .setBitRate _ => 0x3
  | .changeBaudRate _ => 0x4
  | .initMsgObjects _ => 0x5
  | .enable _ => 0x6
  | .disable _ => 0x7
  | .getBitTiming _ => 0x8
  | .release _ => 0x9

/-- The command word `(i << 4) | OPC` (R80, R86). -/
def encode (i : Instr) : Word := (0 : BitVec 24) ++ i.inst ++ i.opc

/-- Does a line of this command write ARG0 and ARG1 (R86)? -/
def Instr.takesOperands : Instr → Bool
  | .construct _ => true
  | .solve _ => true
  | .setBitRate _ => true
  | .changeBaudRate _ => true
  | .initMsgObjects _ => false
  | .enable _ => false
  | .disable _ => false
  | .getBitTiming _ => false
  | .release _ => false

/-- What an assembler line presents (R86): the operand registers for the commands that read them, then the word. -/
def assemble (i : Instr) (clockHz rateHz : Word) : HostCmd where
  word := encode i
  arg0 := if i.takesOperands then some clockHz else none
  arg1 := if i.takesOperands then some rateHz else none

/-- The command this decoder reads from a word of `nbits` bits, under the default parameters
(N_INSTANCES = 2, `Config.defaultParams`). A command is exactly one 32-bit word (R85). -/
def decodeTableWord (nbits w : Nat) : Option Instr :=
  if nbits ≤ 32 then
    match decode Config.defaultParams.nInst (BitVec.ofNat 32 (w % 2 ^ nbits)) with
    | .ok i => some i
    | .error _ => none
  else none

end Sys2Proof
end

