-- ==== Sys2Proof/Machine/State.lean ====
section
/-! DEFINITION. The state of CANBT (spec/10_state.md), plain data, and its value after block reset (R51, R230). -/

namespace Sys2Proof.Machine

open Sys2Proof.Config

/-- Why the machine stops. The first five are the model-only faults of spec/60_exceptions.md R205: the micro-operation
or the transfer that meets one records it in `faults` (a next state), and every later move of the sequencer, of a
message handler, or of a host that presents to the idle port answers it (log 10). All are safe: the spec gives no further step. -/
inductive Fault where
  /-- NO_CLOCK: raised by a register access (`memRead`, `memWrite`) while `powered` is false (spec/20_memory.md R62).
  Safe. -/
  | noClock
  /-- BAD_ACCESS: raised by a register access of width ≠ 4, misaligned, or at an offset not in R61
  (spec/20_memory.md R62). Safe. -/
  | badAccess
  /-- IF_RACE: raised by a write to an IF1 register while a transfer is pending (spec/42_message_objects.md R172,
  R174). Safe. -/
  | ifRace
  /-- BAD_MNUM: raised by an IF1CRQ write with MNUM outside 1..32 (R172). Safe. -/
  | badMnum
  /-- UNMODELLED_TRANSFER: raised by a message handler's completion with IF1CMSK neither 0xB0 nor 0x0C (R173).
  Safe. -/
  | unmodelledTransfer
  /-- The model's own: the sequencer's `step` is past the end of the running command's list, a state no run
  reaches (R44; log 12). Raised by the command meanings. Safe. -/
  | offList
  /-- The model's own: `cmd_busy` is true and CMD holds no legal word, a state no run reaches (R42; log 12). Raised by
  the sequencer's move. Safe. -/
  | strayCommand
deriving DecidableEq, Repr, Inhabited

/-- Reasons the model has no meaning for an instruction. -/
inductive Refusal where
  /-- raised by `exec` for an instruction whose meaning is not written yet; safe -/
  | notModelled (mnemonic : String)
deriving DecidableEq, Repr

/-- A loop pass of INIT_MSG_OBJECTS (spec/10_state.md R45). -/
inductive Pass where
  | one
  | two
deriving DecidableEq, Repr, Inhabited

/-- One CAN peripheral instance (spec/60_exceptions.md R213). -/
structure CanInst where
  /-- `powered[i]` (R37) -/
  powered : Bool
  /-- `phase[i]` (R43) -/
  phase : Phase
  /-- the stored bits of the eight registers (R20, R21) -/
  regs : RegFile
  /-- the outstanding IF1 transfer (R36) -/
  pending : Option ObjIdx
  /-- the message-object table (R35) -/
  objects : Vector MsgObject 32
deriving DecidableEq, Repr

/-- An accepted solution of the bit-rate search: the ratio r, the table index of q, the pre-divisor and the
table's entry (spec/40_solver.md R104, R105). -/
structure Solution where
  ratio : Nat
  qIdx : QuantaIdx
  pd : Nat
  entry : TimingEntry
deriving DecidableEq, Repr

/-- The sequencer-internal registers that the commands' pseudocode names (spec/00_scope.md R11); they live while a
command runs (log 6). `priorPhase` is the phase SET_BIT_RATE returns to (spec/41_controller.md R140). -/
structure Locals where
  clk : Word
  sol : Solution
  c : Word
  c2 : Word
  b : Word
  v : Nat
  priorPhase : Phase
deriving DecidableEq, Repr

/-- What the internal registers hold between commands (log 6). -/
def Locals.idle : Locals where
  clk := 0
  sol := { ratio := 0, qIdx := 0, pd := 0, entry := { seg1 := 0, seg2 := 0, sjw := 0 } }
  c := 0
  c2 := 0
  b := 0
  v := 0
  priorPhase := .reset

/-- One agent's move (spec/00_scope.md R6). -/
inductive Turn where
  /-- the host presents a command -/
  | host (cmd : HostCmd)
  /-- the sequencer runs its next micro-operation -/
  | sequencer
  /-- the message handler of instance `n` takes its completion step -/
  | handler (n : InstNum)
deriving DecidableEq, Repr

/-- The state of CANBT. -/
structure State where
  /-- the parameters (spec/00_scope.md R8), never written (log 3) -/
  params : Params
  /-- the instances, by INST (spec/60_exceptions.md R213) -/
  insts : Vector CanInst 16
  /-- CMD, ARG0, ARG1 (spec/10_state.md R40) -/
  cmd : Word
  arg0 : Word
  arg1 : Word
  /-- STATUS and the result registers (R41) -/
  status : StatusByte
  resRate : Word
  resSeg1 : ResField
  resSeg2 : ResField
  resSjw : ResField
  resPd : ResField
  /-- `cmd_busy` (R42) -/
  cmdBusy : Bool
  /-- `step`, the sequencer's position in the command's list (R44) -/
  seqStep : Nat
  /-- the loop registers of INIT_MSG_OBJECTS (R45) -/
  pass : Pass
  slot : Nat
  polls : Nat
  /-- `saved_ctl` (R46) -/
  savedCtl : Word
  /-- the pseudocode's internal registers (log 6) -/
  loc : Locals
  /-- the model-only marks (R47) -/
  refused : Bool
  faults : List Fault
  /-- the model's own: the agents' moves still to come, oldest first (log 2) -/
  env : List Turn
  /-- the model's own: counter of the free values (log 5) -/
  freeCtr : Nat
deriving DecidableEq, Repr

/-- An instance after block reset (R51). The spec leaves registers and objects unspecified there; the values are
DESIGN CHOICES (log 4). -/
def CanInst.reset : CanInst where
  powered := false
  phase := .reset
  regs := defaultResetValues
  pending := none
  objects := Vector.replicate 32 { arb1 := 0, arb2 := 0, mctl := 0, mask := 0, data := 0 }

/-- The state after block reset (R51, spec/70_reset_and_hazards.md R230); what those rules leave unspecified is
named in log 4, the parameters in log 3, `env` in log 2. -/
def State.reset : State where
  params := defaultParams
  insts := Vector.replicate 16 CanInst.reset
  cmd := 0
  arg0 := 0
  arg1 := 0
  status := 0
  resRate := 0
  resSeg1 := 0
  resSeg2 := 0
  resSjw := 0
  resPd := 0
  cmdBusy := false
  seqStep := 0
  pass := .one
  slot := 1
  polls := 0
  savedCtl := 0
  loc := Locals.idle
  refused := false
  faults := []
  env := []
  freeCtr := 0

end Sys2Proof.Machine
end

