-- ==== Sys2Proof/Machine/Operands.lean ====
section
/-! DEFINITION. The register map, the implemented bits, the field encodings of BIT and BRPE, and the host port's
registers: every way a value is taken from or put into CANBT's state. -/

namespace Sys2Proof.Machine

open Sys2Proof.Config

/-! ### The register block -/

/-- All eight registers (spec/10_state.md R20). -/
def Reg.all : List Reg := [.ctl, .bit, .brpe, .if1crq, .if1cmsk, .if1arb1, .if1arb2, .if1mctl]

/-- `off(R)` (spec/20_memory.md R61). -/
def Reg.offset : Reg → Word
  | .ctl => 0x000
  | .bit => 0x00C
  | .brpe => 0x018
  | .if1crq => 0x020
  | .if1cmsk => 0x024
  | .if1arb1 => 0x030
  | .if1arb2 => 0x034
  | .if1mctl => 0x038

/-- The register at an offset; none at an offset not in R61. -/
def Reg.atOffset (o : Word) : Option Reg := Reg.all.find? fun r => r.offset = o

/-- IMPL(R), the implemented bits (spec/10_state.md R22, R27, R28, R30 to R34). -/
def Reg.impl : Reg → Word
  | .ctl => 0x000000EF
  | .bit => 0x0000FFFF
  | .brpe => 0x0000000F
  | .if1crq => 0x0000803F
  | .if1cmsk => 0x000000FF
  | .if1arb1 => 0x0000FFFF
  | .if1arb2 => 0x0000FFFF
  | .if1mctl => 0x0000FF8F

/-- The implemented bits a write changes: IMPL(R), but for the read-only BUSY of IF1CRQ (R30). -/
def Reg.writable : Reg → Word
  | .ctl => 0x000000EF
  | .bit => 0x0000FFFF
  | .brpe => 0x0000000F
  | .if1crq => 0x0000003F
  | .if1cmsk => 0x000000FF
  | .if1arb1 => 0x0000FFFF
  | .if1arb2 => 0x0000FFFF
  | .if1mctl => 0x0000FF8F

/-- Is the register of the interface-1 window (R30 to R34)? -/
def Reg.isIf1 : Reg → Bool
  | .ctl => false
  | .bit => false
  | .brpe => false
  | .if1crq => true
  | .if1cmsk => true
  | .if1arb1 => true
  | .if1arb2 => true
  | .if1mctl => true

/-- Is the register write protected outside configuration (R29)? -/
def Reg.isTiming : Reg → Bool
  | .ctl => false
  | .bit => true
  | .brpe => true
  | .if1crq => false
  | .if1cmsk => false
  | .if1arb1 => false
  | .if1arb2 => false
  | .if1mctl => false

/-- The stored contents of one register. -/
def RegFile.get (f : RegFile) : Reg → Word
  | .ctl => f.ctl
  | .bit => f.bit
  | .brpe => f.brpe
  | .if1crq => f.if1crq
  | .if1cmsk => f.if1cmsk
  | .if1arb1 => f.if1arb1
  | .if1arb2 => f.if1arb2
  | .if1mctl => f.if1mctl

/-- Replace the stored contents of one register. -/
def RegFile.set (f : RegFile) (r : Reg) (v : Word) : RegFile :=
  match r with
  | .ctl => { f with ctl := v }
  | .bit => { f with bit := v }
  | .brpe => { f with brpe := v }
  | .if1crq => { f with if1crq := v }
  | .if1cmsk => { f with if1cmsk := v }
  | .if1arb1 => { f with if1arb1 := v }
  | .if1arb2 => { f with if1arb2 := v }
  | .if1mctl => { f with if1mctl := v }

/-- Keep only the bits a register can store (R21). -/
def RegFile.implemented (f : RegFile) : RegFile where
  ctl := f.ctl &&& Reg.ctl.writable
  bit := f.bit &&& Reg.bit.writable
  brpe := f.brpe &&& Reg.brpe.writable
  if1crq := f.if1crq &&& Reg.if1crq.writable
  if1cmsk := f.if1cmsk &&& Reg.if1cmsk.writable
  if1arb1 := f.if1arb1 &&& Reg.if1arb1.writable
  if1arb2 := f.if1arb2 &&& Reg.if1arb2.writable
  if1mctl := f.if1mctl &&& Reg.if1mctl.writable

/-- BASE(i) (spec/00_scope.md R8). -/
def State.base (s : State) (n : InstNum) : Word := s.params.bases[n.toNat]'n.isLt

/-- The address of register R of instance i, `BASE(i) + off(R)` (spec/20_memory.md R60, R62). Past 2^32, where the
spec is silent, the sum is taken modulo 2^32: DESIGN CHOICE (log 24). -/
def State.regAddr (s : State) (n : InstNum) (r : Reg) : Word := s.base n + r.offset

/-! ### Instances and objects -/

/-- Instance i. -/
def State.inst (s : State) (n : InstNum) : CanInst := s.insts[n.toNat]'n.isLt

/-- Replace instance i. -/
def State.setInst (s : State) (n : InstNum) (x : CanInst) : State :=
  { s with insts := s.insts.set n.toNat x n.isLt }

/-- The object at a place of the table (R35). -/
def CanInst.object (x : CanInst) (k : ObjIdx) : MsgObject := x.objects[k.val]'k.isLt

/-- Replace the object at a place of the table. -/
def CanInst.setObject (x : CanInst) (k : ObjIdx) (o : MsgObject) : CanInst :=
  { x with objects := x.objects.set k.val o k.isLt }

/-- Write an instance's `phase` (spec/10_state.md R43). -/
def CanInst.setPhase (x : CanInst) (p : Phase) : CanInst := { x with phase := p }

/-- Write an instance's `powered` (R37). -/
def CanInst.setPowered (x : CanInst) (b : Bool) : CanInst := { x with powered := b }

/-- Write an instance's `pending` (R36). -/
def CanInst.setPending (x : CanInst) (p : Option ObjIdx) : CanInst := { x with pending := p }

/-- The message number MNUM = v[5:0] of an IF1CRQ value (R30). -/
def mnumField (v : Word) : BitVec 6 := v.extractLsb' 0 6

/-- The object a message number addresses: numbers 1..32 only (spec/42_message_objects.md R172). -/
def objectOfMnum (m : BitVec 6) : Option ObjIdx :=
  if h : 1 ≤ m.toNat ∧ m.toNat ≤ 32 then some ⟨m.toNat - 1, by omega⟩ else none

/-! ### Bit-timing fields -/

/-- BIT for a timing entry and a pre-divisor (spec/30_encoding.md R87). -/
def encodeBit (e : TimingEntry) (pd : Nat) : Word :=
  (BitVec.ofNat 32 (e.seg1 - 1) <<< 8) ||| (BitVec.ofNat 32 (e.seg2 - 1) <<< 12) |||
    (BitVec.ofNat 32 (e.sjw - 1) <<< 6) ||| (BitVec.ofNat 32 (pd - 1) &&& 0x3F)

/-- BRPE for a pre-divisor, `(raw_pd >> 6) & 0xF` (R87). -/
def encodeBrpe (pd : Nat) : Word := (BitVec.ofNat 32 (pd - 1) >>> 6) &&& 0xF

/-- seg1 = b[11:8] + 1 (R88). -/
def decodeSeg1 (b : Word) : ResField := (b.extractLsb' 8 4).setWidth 11 + 1

/-- seg2 = b[15:12] + 1 (R88). -/
def decodeSeg2 (b : Word) : ResField := (b.extractLsb' 12 4).setWidth 11 + 1

/-- sjw = b[7:6] + 1 (R88). -/
def decodeSjw (b : Word) : ResField := (b.extractLsb' 6 2).setWidth 11 + 1

/-- pd = e[3:0] joined with b[5:0], plus 1 (R88). -/
def decodePd (b e : Word) : ResField := (e.extractLsb' 0 4 ++ b.extractLsb' 0 6).setWidth 11 + 1

/-! ### The host port -/

/-- The registers the host reads (spec/10_state.md R41). -/
inductive HostReg where
  | status
  | resRate
  | resSeg1
  | resSeg2
  | resSjw
  | resPd
deriving DecidableEq, Repr

/-- A host read: no defined value while `cmd_busy` (spec/60_exceptions.md R215; log 17). -/
def State.hostRead (s : State) (r : HostReg) : Option Word :=
  if s.cmdBusy then none
  else some <|
    match r with
    | .status => s.status.setWidth 32
    | .resRate => s.resRate
    | .resSeg1 => s.resSeg1.setWidth 32
    | .resSeg2 => s.resSeg2.setWidth 32
    | .resSjw => s.resSjw.setWidth 32
    | .resPd => s.resPd.setWidth 32

/-- The host writes the operand registers it was given and CMD (spec/10_state.md R40; log 8). -/
def State.latch (s : State) (h : HostCmd) : State :=
  { s with cmd := h.word, arg0 := h.arg0.getD s.arg0, arg1 := h.arg1.getD s.arg1 }

end Sys2Proof.Machine
end

