-- ==== Sys2Proof/Machine/Flags.lean ====
section
/-! DEFINITION. CANBT's status flags (spec/10_state.md R52): STATUS codes, BUSY, the control bits of CTL, write
enable, and the phase gates. There are no condition codes. -/

namespace Sys2Proof.Machine

open Sys2Proof.Config

/-! ### STATUS codes (spec/60_exceptions.md R200) -/

/-- OK -/
def statusOk : StatusByte := 0x00

/-- ERR_BITRATE_NOT_FOUND -/
def statusBitrateNotFound : StatusByte := 0x01

/-- ERR_TIMEOUT -/
def statusTimeout : StatusByte := 0x02

/-- REFUSED_ILLEGAL -/
def statusRefusedIllegal : StatusByte := 0x80

/-- REFUSED_STATE -/
def statusRefusedState : StatusByte := 0x81

/-! ### CTL bits (spec/10_state.md R22) and the fixed words of spec/30_encoding.md R89 -/

/-- INIT, bit 0 -/
def ctlInit : Word := 0x00000001

/-- IE, bit 1 -/
def ctlIe : Word := 0x00000002

/-- INIT | CCE -/
def ctlInitCce : Word := 0x00000041

/-- IF1CMSK = WRNRD | ARB | CONTROL -/
def cmskWrite : Word := 0x000000B0

/-- IF1CMSK = NEWDAT | CLRINTPND -/
def cmskClear : Word := 0x0000000C

/-- Is CTL.INIT set (R23)? -/
def initBit (ctl : Word) : Bool := ctl.getLsbD 0

/-- Is CTL.CCE set (R24)? -/
def cceBit (ctl : Word) : Bool := ctl.getLsbD 6

/-- BUSY as a read of IF1CRQ shows it, bit 15: 1 exactly when a transfer is pending (R36). -/
def busyFlag : Option ObjIdx → Word
  | none => 0x00000000
  | some _ => 0x00008000

/-- BUSY in a value read from IF1CRQ, x[15] (spec/42_message_objects.md R171). -/
def busyBit (x : Word) : Bool := x.getLsbD 15

/-- The write enable of a register: BIT and BRPE take a write only with INIT and CCE set, if TIMING_WRITE_PROTECT
(R29). -/
def CanInst.writeEnabled (x : CanInst) (protect : Bool) (r : Reg) : Bool :=
  !(r.isTiming && protect) || (initBit x.regs.ctl && cceBit x.regs.ctl)

/-! ### Message-object flags (spec/10_state.md R34, R35) -/

/-- Clear NEWDAT (bit 15) and INTPND (bit 13) of `mctl` (spec/42_message_objects.md R173). -/
def clearNewdatIntpnd (m : Half) : Half := m &&& 0x5FFF

/-! ### Phase gates (spec/60_exceptions.md R204) -/

/-- The phases in which CONSTRUCT is legal. -/
def Phase.allowsConstruct : Phase → Bool
  | .reset => true
  | .configuring => false
  | .initialized => false
  | .enabled => false
  | .disabled => false
  | .released => true

/-- SOLVE is legal in every phase. -/
def Phase.allowsSolve (_ : Phase) : Bool := true

/-- The phases in which the other seven commands are legal. -/
def Phase.isLive : Phase → Bool
  | .reset => false
  | .configuring => false
  | .initialized => true
  | .enabled => true
  | .disabled => true
  | .released => false

end Sys2Proof.Machine
end

