-- ==== Sys2Proof/Machine/Ops.lean ====
section
/-! DEFINITION. The shared operations: register access (spec/20_memory.md R62), the marks and faults (R47, R205), how a
command is presented, refused, ended and errored (R204, R207), and the collaborator's answers (R130). -/

namespace Sys2Proof.Machine

open Sys2Proof.Config

/-- The outcome of a move. -/
abbrev Result := Host.Outcome State Fault Refusal

/-! ### Marks -/

/-- Record a fault: `faults` only ever grows and is a set (spec/10_state.md R47). -/
def State.recordFault (s : State) (f : Fault) : State :=
  { s with faults := if f ∈ s.faults then s.faults else s.faults ++ [f] }

/-- Record a fault if there is one. -/
def State.recordFault? (s : State) : Option Fault → State
  | none => s
  | some f => s.recordFault f

/-! ### Register access -/

/-- The value a read of a register returns: its stored implemented bits, 0 elsewhere (spec/10_state.md R21), with
BUSY in IF1CRQ (R36). -/
def CanInst.read (x : CanInst) : Reg → Word
  | .ctl => x.regs.ctl &&& Reg.ctl.writable
  | .bit => x.regs.bit &&& Reg.bit.writable
  | .brpe => x.regs.brpe &&& Reg.brpe.writable
  | .if1crq => (x.regs.if1crq &&& Reg.if1crq.writable) ||| busyFlag x.pending
  | .if1cmsk => x.regs.if1cmsk &&& Reg.if1cmsk.writable
  | .if1arb1 => x.regs.if1arb1 &&& Reg.if1arb1.writable
  | .if1arb2 => x.regs.if1arb2 &&& Reg.if1arb2.writable
  | .if1mctl => x.regs.if1mctl &&& Reg.if1mctl.writable

/-- Store a register's implemented, writable bits (R21), if it is write enabled (R29). -/
def CanInst.store (x : CanInst) (protect : Bool) (r : Reg) (v : Word) : CanInst :=
  if x.writeEnabled protect r then { x with regs := x.regs.set r (v &&& r.writable) } else x

/-- A write to IF1CRQ: it sets MNUM and starts the transfer of the object MNUM names; with a transfer pending
it is IF_RACE, with MNUM outside 1..32 BAD_MNUM (spec/42_message_objects.md R172). -/
def CanInst.request (x : CanInst) (protect : Bool) (v : Word) : CanInst × Option Fault :=
  let y := x.store protect .if1crq v
  match x.pending with
  | some _ => (y, some .ifRace)
  | none =>
    match objectOfMnum (mnumField v) with
    | some k => (y.setPending (some k), none)
    | none => (y, some .badMnum)

/-- A write to a register of a powered instance, and the fault it meets: IF_RACE for an IF1 register while a
transfer is pending, the register still taking the value (R174). -/
def CanInst.write (x : CanInst) (protect : Bool) (r : Reg) (v : Word) : CanInst × Option Fault :=
  if r = .if1crq then x.request protect v
  else (x.store protect r v, if r.isIf1 && x.pending.isSome then some .ifRace else none)

/-- The register of instance i that an access of `width` bytes at `a` reaches, or the fault it meets: NO_CLOCK first,
then BAD_ACCESS (spec/20_memory.md R62; log 11). -/
def accessReg (n : InstNum) (a : Word) (width : Nat) (s : State) : Except Fault Reg :=
  if (s.inst n).powered then
    if width = 4 ∧ a.toNat % 4 = 0 then
      match Reg.atOffset (a - s.base n) with
      | some r => .ok r
      | none => .error .badAccess
    else .error .badAccess
  else .error .noClock

/-- `MemRead(a, width)` by instance i's sequencer (R62): no side effect. -/
def memRead (n : InstNum) (a : Word) (width : Nat) (s : State) : Except Fault Word :=
  match accessReg n a width s with
  | .ok r => .ok ((s.inst n).read r)
  | .error f => .error f

/-- `MemWrite(a, width, v)` by instance i's sequencer (R62). A fault is recorded in `faults`. -/
def memWrite (n : InstNum) (a : Word) (width : Nat) (v : Word) (s : State) : State :=
  match accessReg n a width s with
  | .ok r =>
    let w := (s.inst n).write s.params.writeProtect r v
    (s.setInst n w.1).recordFault? w.2
  | .error f => s.recordFault f

/-- A micro-operation that reads `reg(R)` (spec/00_scope.md R11) and goes on with the value; a fault stops it. -/
def withRead (n : InstNum) (r : Reg) (k : Word → State → State) (s : State) : Result :=
  match memRead n (s.regAddr n r) 4 s with
  | .ok v => .next (k v s)
  | .error f => .next (s.recordFault f)

/-- A micro-operation that writes `reg(R) <- v` (R11) and goes on; a fault stops it. -/
def withWrite (n : InstNum) (r : Reg) (v : Word) (k : State → State) (s : State) : Result :=
  let t := memWrite n (s.regAddr n r) 4 v s
  .next (if t.faults = [] then k t else t)

/-! ### Writes of one register or register group of the sequencer -/

/-- Write the internal registers (log 6). -/
def State.setLoc (s : State) (l : Locals) : State := { s with loc := l }

/-- Write `saved_ctl` (spec/10_state.md R46). -/
def State.setSavedCtl (s : State) (v : Word) : State := { s with savedCtl := v }

/-- Write `slot` (R45). -/
def State.setSlot (s : State) (k : Nat) : State := { s with slot := k }

/-- Write `polls` (R45). -/
def State.setPolls (s : State) (k : Nat) : State := { s with polls := k }

/-- Write RES_RATE (R41). -/
def State.setResRate (s : State) (v : Word) : State := { s with resRate := v }

/-- Write RES_SEG1, RES_SEG2, RES_SJW and RES_PD (R41). -/
def State.setResTiming (s : State) (seg1 seg2 sjw pd : ResField) : State :=
  { s with resSeg1 := seg1, resSeg2 := seg2, resSjw := sjw, resPd := pd }

/-- The moves still to come (log 2). -/
def State.setEnv (s : State) (e : List Turn) : State := { s with env := e }

/-! ### The sequencer -/

/-- The next micro-operation of the list (spec/10_state.md R44). -/
def State.advance (s : State) : State := { s with seqStep := s.seqStep + 1 }

/-- Move `step` to the first read of a wait: `polls <- 0` (spec/42_message_objects.md R171; log 9). -/
def State.enterWait (s : State) (k : Nat) : State := { s with seqStep := k, polls := 0 }

/-- End of a command: STATUS is written, `cmd_busy` falls (spec/10_state.md R41, R42), the internal registers are
gone (log 6). An error does just this (spec/60_exceptions.md R207). `step` and the loop registers, unspecified from
here on (R44, spec/70_reset_and_hazards.md R230), keep their last values: DESIGN CHOICE (log 22). -/
def State.finish (s : State) (code : StatusByte) : State :=
  { s with status := code, cmdBusy := false, loc := Locals.idle }

/-- Write `phase[i]` (R43). -/
def State.setPhase (s : State) (n : InstNum) (p : Phase) : State :=
  s.setInst n ((s.inst n).setPhase p)

/-! ### Presentation of a command (spec/60_exceptions.md R204, R206) -/

/-- The command is taken: `cmd_busy` rises and `step` is 0 (spec/10_state.md R42, R44). -/
def State.accept (s : State) : State := { s with cmdBusy := true, seqStep := 0 }

/-- A command whose first micro-operation is a wait is taken: `polls <- 0` too (log 9). -/
def State.acceptWaiting (s : State) : State := { s with cmdBusy := true, seqStep := 0, polls := 0 }

/-- The command is refused for the phase: STATUS = REFUSED_STATE and the mark, nothing else (R204 (b)). -/
def State.refuseState (s : State) : State := { s with status := statusRefusedState, refused := true }

/-- The command word is illegal: STATUS = REFUSED_ILLEGAL and the mark, nothing else (R204 (a),
spec/30_encoding.md R84). -/
def State.refuseIllegal (s : State) : State := { s with status := statusRefusedIllegal, refused := true }

/-- A word presented while `cmd_busy` is discarded and marked; STATUS is not written (R204). -/
def State.discard (s : State) : State := { s with refused := true }

/-- A command for instance i. Presented (no command runs), it is taken or refused by the phase gate; running,
its next micro-operation is done. A recorded fault has stopped the sequencer in either case, and then no STATUS is
written (R205, R206; log 1, log 10). -/
def command (legal : Phase → Bool) (take : State → State) (n : InstNum) (micro : State → Result) (s : State) :
    Result :=
  match s.faults with
  | f :: _ => .fault f
  | [] =>
    if s.cmdBusy then micro s
    else if legal (s.inst n).phase then .next (take s)
    else .next s.refuseState

/-! ### The power/reset collaborator (spec/41_controller.md R130) -/

/-- `POWER_ON(i)` -/
def powerOn (n : InstNum) (s : State) : State := s.setInst n ((s.inst n).setPowered true)

/-- `PERIPH_RESET(i)`: registers to RESET_VALUES, `pending` none, every object unspecified (spec/10_state.md R50): a
free value (log 5). -/
def periphReset (n : InstNum) (s : State) : State :=
  { s.setInst n { s.inst n with
      regs := s.params.resetValues.implemented
      pending := none
      objects := freeObjects s.freeCtr } with
    freeCtr := s.freeCtr + 1 }

/-- `POWER_OFF(i)`: unpowered, every register and object unspecified, `pending` none (R165): free values (log 5). -/
def powerOff (n : InstNum) (s : State) : State :=
  { s.setInst n { s.inst n with
      powered := false
      regs := (freeRegs s.freeCtr).implemented
      pending := none
      objects := freeObjects s.freeCtr } with
    freeCtr := s.freeCtr + 1 }

end Sys2Proof.Machine
end

