-- ==== Sys2Proof/Machine/Solver.lean ====
section
/-! DEFINITION. The bit-rate solver (spec/40_solver.md) and the SOLVE command (R102). The whole search is one internal
micro-operation (R104). -/

namespace Sys2Proof.Machine

open Sys2Proof.Config

/-- The start ratio (R103). -/
def startRatio (clk rate : Nat) : Nat :=
  let r0 := clk / rate
  if r0 = 0 ∨ clk / r0 > rate then r0 + 1 else r0

/-- Quanta per bit at a table index (R100). -/
def quanta (k : QuantaIdx) : Nat := k.val + qpbMin

/-- The table indices in the order the search tries them: q from 19 down to 4 (R104). -/
def quantaDown : List QuantaIdx := [15, 14, 13, 12, 11, 10, 9, 8, 7, 6, 5, 4, 3, 2, 1, 0]

/-- The candidate test of one ratio: the first q, downward, with `r mod q = 0` and `r div q ≤ PD_MAX` (R104). -/
def acceptRatio (r : Nat) : Option QuantaIdx :=
  quantaDown.find? fun k => r % quanta k = 0 && r / quanta k ≤ pdMax

/-- The ratio loop from `r`, at most `fuel` ratios (R104). -/
def searchFrom : Nat → Nat → Option (Nat × QuantaIdx)
  | 0, _ => none
  | fuel + 1, r =>
    match acceptRatio r with
    | some k => some (r, k)
    | none => searchFrom fuel (r + 1)

/-- `search(clk, rate)` (R104): the ratios from the start to MAX_RATIO. -/
def search (clk rate : Nat) : Option (Nat × QuantaIdx) :=
  searchFrom (maxRatio + 1 - startRatio clk rate) (startRatio clk rate)

/-- The solver (R103 to R107): none is BITRATE_NOT_FOUND. -/
def solveFor (table : Vector TimingEntry 16) (clk rate : Nat) : Option Solution :=
  if rate = 0 then none
  else
    match search clk rate with
    | none => none
    | some (r, k) => some { ratio := r, qIdx := k, pd := r / quanta k, entry := table[k] }

/-- The solver on ARG0 and ARG1, unsigned (spec/30_encoding.md R82). -/
def State.solution (s : State) : Option Solution :=
  solveFor s.params.table s.arg0.toNat s.arg1.toNat

/-- The achieved rate `clk div (pd * q)` (R106). -/
def achieved (clk : Word) (sol : Solution) : Word :=
  BitVec.ofNat 32 (clk.toNat / (sol.pd * quanta sol.qIdx))

/-- SOLVE's one micro-operation (R102). -/
def solveMicro (s : State) : Result :=
  match s.seqStep with
  | 0 =>
    match s.solution with
    | none => .next (s.finish statusBitrateNotFound)
    | some sol =>
      .next (((s.setResRate (achieved s.arg0 sol)).setResTiming (BitVec.ofNat 11 sol.entry.seg1)
        (BitVec.ofNat 11 sol.entry.seg2) (BitVec.ofNat 11 sol.entry.sjw) (BitVec.ofNat 11 sol.pd)).finish statusOk)
  | _ => .fault .offList

/-- SOLVE (R102): legal in every phase, touches no register. -/
def execSolve (n : InstNum) (s : State) : Result :=
  command Phase.allowsSolve State.accept n solveMicro s

end Sys2Proof.Machine
end

