-- ==== Sys2Proof/Machine/Controller.lean ====
section
/-! DEFINITION. The controller state machine's commands (spec/41_controller.md): each a numbered list of
micro-operations, one a step. -/

namespace Sys2Proof.Machine

open Sys2Proof.Config

/-! ### CONSTRUCT (R132) -/

/-- CONSTRUCT's micro-operations 0 to 6. -/
def constructMicro (n : InstNum) (s : State) : Result :=
  match s.seqStep with
  | 0 => .next (powerOn n s).advance
  | 1 => .next (periphReset n s).advance
  | 2 => withWrite n .ctl 0 State.advance s
  | 3 => withWrite n .ctl ctlInitCce (fun t => (t.setPhase n .configuring).advance) s
  | 4 => withWrite n .bit s.params.defaultBit State.advance s
  | 5 => withRead n .ctl (fun v t => (t.setLoc { t.loc with c := v }).advance) s
  | 6 => withWrite n .ctl (s.loc.c &&& ~~~ctlInit)
      (fun t => (t.setPhase n .initialized).finish statusOk) s
  | _ => .fault .offList

/-- CONSTRUCT (R132): legal in RESET and RELEASED; ARG0 and ARG1 are not used (R133). -/
def execConstruct (n : InstNum) (s : State) : Result :=
  command Phase.allowsConstruct State.accept n (constructMicro n) s

/-! ### SET_BIT_RATE (R140) -/

/-- SET_BIT_RATE's micro-operations 0 to 5. -/
def setBitRateMicro (n : InstNum) (s : State) : Result :=
  match s.seqStep with
  | 0 =>
    match s.solution with
    | none => .next (s.finish statusBitrateNotFound)
    | some sol => .next (s.setLoc { s.loc with clk := s.arg0, sol := sol }).advance
  | 1 => withRead n .ctl (fun v t => (t.setSavedCtl v).advance) s
  | 2 => withWrite n .ctl (s.savedCtl ||| ctlInitCce)
      (fun t => ((t.setPhase n .configuring).setLoc
        { t.loc with priorPhase := (t.inst n).phase }).advance) s
  | 3 => withWrite n .bit (encodeBit s.loc.sol.entry s.loc.sol.pd) State.advance s
  | 4 => withWrite n .brpe (encodeBrpe s.loc.sol.pd) State.advance s
  | 5 => withWrite n .ctl s.savedCtl
      (fun t => ((t.setPhase n t.loc.priorPhase).setResRate (achieved t.loc.clk t.loc.sol)).finish statusOk) s
  | _ => .fault .offList

/-- SET_BIT_RATE (R140). -/
def execSetBitRate (n : InstNum) (s : State) : Result :=
  command Phase.isLive State.accept n (setBitRateMicro n) s

/-! ### CHANGE_BAUD_RATE (R150) -/

/-- v = ((clk * 8) div rate + 1) div 2, exact (R150). -/
def coarseDivisor (clk rate : Nat) : Nat := ((clk * 8) / rate + 1) / 2

/-- CHANGE_BAUD_RATE's micro-operations 0 to 5. -/
def changeBaudRateMicro (n : InstNum) (s : State) : Result :=
  match s.seqStep with
  | 0 =>
    if s.arg1 = 0 then .next (s.finish statusBitrateNotFound)
    else .next (s.setLoc { s.loc with v := coarseDivisor s.arg0.toNat s.arg1.toNat }).advance
  | 1 => withRead n .ctl (fun v t => (t.setLoc { t.loc with c := v }).advance) s
  | 2 => withWrite n .ctl (s.loc.c &&& ~~~ctlIe) State.advance s
  | 3 => withWrite n .brpe (BitVec.ofNat 32 s.loc.v) State.advance s
  | 4 => withRead n .ctl (fun v t => (t.setLoc { t.loc with c2 := v }).advance) s
  | 5 => withWrite n .ctl (s.loc.c2 ||| ctlIe) (fun t => t.finish statusOk) s
  | _ => .fault .offList

/-- CHANGE_BAUD_RATE (R150). -/
def execChangeBaudRate (n : InstNum) (s : State) : Result :=
  command Phase.isLive State.accept n (changeBaudRateMicro n) s

/-! ### ENABLE (R155) and DISABLE (R156) -/

/-- ENABLE's micro-operations 0 and 1. -/
def enableMicro (n : InstNum) (s : State) : Result :=
  match s.seqStep with
  | 0 => withRead n .ctl (fun v t => (t.setLoc { t.loc with c := v }).advance) s
  | 1 => withWrite n .ctl (s.loc.c &&& ~~~ctlInit) (fun t => (t.setPhase n .enabled).finish statusOk) s
  | _ => .fault .offList

/-- ENABLE (R155). -/
def execEnable (n : InstNum) (s : State) : Result :=
  command Phase.isLive State.accept n (enableMicro n) s

/-- DISABLE's micro-operations 0 and 1. -/
def disableMicro (n : InstNum) (s : State) : Result :=
  match s.seqStep with
  | 0 => withRead n .ctl (fun v t => (t.setLoc { t.loc with c := v }).advance) s
  | 1 => withWrite n .ctl (s.loc.c ||| ctlInit) (fun t => (t.setPhase n .disabled).finish statusOk) s
  | _ => .fault .offList

/-- DISABLE (R156). -/
def execDisable (n : InstNum) (s : State) : Result :=
  command Phase.isLive State.accept n (disableMicro n) s

/-! ### GET_BIT_TIMING (R160) -/

/-- GET_BIT_TIMING's micro-operations 0 and 1. -/
def getBitTimingMicro (n : InstNum) (s : State) : Result :=
  match s.seqStep with
  | 0 => withRead n .bit (fun v t => (t.setLoc { t.loc with b := v }).advance) s
  | 1 => withRead n .brpe (fun e t =>
      (t.setResTiming (decodeSeg1 t.loc.b) (decodeSeg2 t.loc.b) (decodeSjw t.loc.b) (decodePd t.loc.b e)).finish
        statusOk) s
  | _ => .fault .offList

/-- GET_BIT_TIMING (R160). -/
def execGetBitTiming (n : InstNum) (s : State) : Result :=
  command Phase.isLive State.accept n (getBitTimingMicro n) s

/-! ### RELEASE (R165) -/

/-- RELEASE with TEARDOWN = LEAVE: no register access. -/
def releaseLeaveMicro (n : InstNum) (s : State) : Result :=
  match s.seqStep with
  | 0 => .next ((s.setPhase n .released).finish statusOk)
  | _ => .fault .offList

/-- RELEASE with TEARDOWN = DISABLE: micro-operations 0 and 1. -/
def releaseDisableMicro (n : InstNum) (s : State) : Result :=
  match s.seqStep with
  | 0 => withRead n .ctl (fun v t => (t.setLoc { t.loc with c := v }).advance) s
  | 1 => withWrite n .ctl (s.loc.c ||| ctlInit) (fun t => (t.setPhase n .released).finish statusOk) s
  | _ => .fault .offList

/-- RELEASE with TEARDOWN = POWER_OFF: micro-operation 0. -/
def releasePowerOffMicro (n : InstNum) (s : State) : Result :=
  match s.seqStep with
  | 0 => .next (((powerOff n s).setPhase n .released).finish statusOk)
  | _ => .fault .offList

/-- RELEASE's micro-operations, by TEARDOWN (R165). -/
def releaseMicro (n : InstNum) (s : State) : Result :=
  match s.params.teardown with
  | .leave => releaseLeaveMicro n s
  | .disable => releaseDisableMicro n s
  | .powerOff => releasePowerOffMicro n s

/-- RELEASE (R165). -/
def execRelease (n : InstNum) (s : State) : Result :=
  command Phase.isLive State.accept n (releaseMicro n) s

end Sys2Proof.Machine
end

