-- ==== Sys2Proof/Machine/MessageObjects.lean ====
section
/-! DEFINITION. INIT_MSG_OBJECTS (spec/42_message_objects.md R170, R171) and the message handler's completion step
(R173). The labels P1a to P2r of R170 are the positions of `step` (log 9). -/

namespace Sys2Proof.Machine

open Sys2Proof.Config

/-! ### The labels of R170 as positions of `step` -/

/-- P1a: the wait before pass 1 -/
def p1a : Nat := 0
/-- P1b: the command mask of pass 1 -/
def p1b : Nat := 1
/-- P1c: IF1ARB1 -/
def p1c : Nat := 2
/-- P1d: IF1ARB2 -/
def p1d : Nat := 3
/-- P1e: IF1MCTL -/
def p1e : Nat := 4
/-- P1w: the wait before a slot's request in pass 1 -/
def p1w : Nat := 5
/-- P1r: a slot's request in pass 1 -/
def p1r : Nat := 6
/-- P2a: the wait before pass 2 -/
def p2a : Nat := 7
/-- P2b: the command mask of pass 2 -/
def p2b : Nat := 8
/-- P2w: the wait before a slot's request in pass 2 -/
def p2w : Nat := 9
/-- P2r: a slot's request in pass 2 -/
def p2r : Nat := 10

/-- Does a count of BUSY = 1 reads reach POLL_LIMIT (R171)? -/
def pollsExhausted (limit : Option Nat) (polls : Nat) : Bool :=
  match limit with
  | none => false
  | some k => k ≤ polls

/-- What one read `x` of IF1CRQ does to a wait: BUSY clear goes on, BUSY set is counted and repeats the read, or
ends the command with ERR_TIMEOUT (R171, R179). -/
def pollOn (x : Word) (s : State) : State :=
  if busyBit x then
    let t := s.setPolls (s.polls + 1)
    if pollsExhausted t.params.pollLimit t.polls then t.finish statusTimeout else t
  else s.advance

/-- One micro-operation of `wait_not_busy()` (R171). -/
def waitNotBusy (n : InstNum) (s : State) : Result := withRead n .if1crq pollOn s

/-- Start a pass: `pass <- p`, slots from 1, and its first wait (R170). -/
def State.startPass (s : State) (p : Pass) (wait : Nat) : State :=
  { s with pass := p, slot := 1 }.enterWait wait

/-- The slot loop of a pass: the next slot's wait, or `after` when slot 32 is done (R170, R45). -/
def State.nextSlot (s : State) (wait : Nat) (after : State → State) : State :=
  let t := s.setSlot (s.slot + 1)
  if t.slot ≤ nObjects then t.enterWait wait else after t

/-- INIT_MSG_OBJECTS's micro-operations (R170). -/
def initMsgObjectsMicro (n : InstNum) (s : State) : Result :=
  match s.seqStep with
  | 0 => waitNotBusy n s                                                              -- P1a
  | 1 => withWrite n .if1cmsk cmskWrite State.advance s                               -- P1b
  | 2 => withWrite n .if1arb1 0 State.advance s                                       -- P1c
  | 3 => withWrite n .if1arb2 0 State.advance s                                       -- P1d
  | 4 => withWrite n .if1mctl 0 (fun t => t.startPass .one p1w) s                     -- P1e
  | 5 => waitNotBusy n s                                                              -- P1w
  | 6 => withWrite n .if1crq (BitVec.ofNat 32 s.slot)
      (fun t => t.nextSlot p1w (fun u => u.enterWait p2a)) s                          -- P1r
  | 7 => waitNotBusy n s                                                              -- P2a
  | 8 => withWrite n .if1cmsk cmskClear (fun t => t.startPass .two p2w) s             -- P2b
  | 9 => waitNotBusy n s                                                              -- P2w
  | 10 => withWrite n .if1crq (BitVec.ofNat 32 s.slot)
      (fun t => t.nextSlot p2w (fun u => u.finish statusOk)) s                        -- P2r
  | _ => .fault .offList

/-- INIT_MSG_OBJECTS (R170). -/
def execInitMsgObjects (n : InstNum) (s : State) : Result :=
  command Phase.isLive State.acceptWaiting n (initMsgObjectsMicro n) s

/-! ### The message handler (R173) -/

/-- The transfer of IF1CMSK = 0xB0: the IF1 registers into the object's arbitration and control fields (R173). -/
def transferWrite (x : CanInst) (o : MsgObject) : MsgObject :=
  { o with
    arb1 := (x.read .if1arb1).setWidth 16
    arb2 := (x.read .if1arb2).setWidth 16
    mctl := (x.read .if1mctl).setWidth 16 }

/-- The transfer of IF1CMSK = 0x0C: the object's NEWDAT and INTPND are cleared (R173). -/
def transferClear (o : MsgObject) : MsgObject := { o with mctl := clearNewdatIntpnd o.mctl }

/-- The transfer IF1CMSK asks for, none for a mask the spec gives no meaning (R173). -/
def transfer (x : CanInst) (o : MsgObject) : Option MsgObject :=
  if x.read .if1cmsk = cmskWrite then some (transferWrite x o)
  else if x.read .if1cmsk = cmskClear then some (transferClear o)
  else none

/-- The completion of an instance's pending transfer: the object is written and `pending` becomes none, in one step
(R173, spec/20_memory.md R70). -/
def CanInst.complete (x : CanInst) (k : ObjIdx) : Option CanInst :=
  match transfer x (x.object k) with
  | some o => some ((x.setObject k o).setPending none)
  | none => none

/-- The message handler's move: the completion step if a transfer is pending; with none pending it has no step and
the state stays (log 19). A recorded fault stops it (log 10). -/
def handlerMove (n : InstNum) (s : State) : Result :=
  match s.faults with
  | f :: _ => .fault f
  | [] =>
    match (s.inst n).pending with
    | none => .next s
    | some k =>
      match (s.inst n).complete k with
      | some x => .next (s.setInst n x)
      | none => .next (s.recordFault .unmodelledTransfer)

end Sys2Proof.Machine
end

