-- ==== Sys2Proof/Machine/Dispatch.lean ====
section
/-! DEFINITION. One arm per command (spec/30_encoding.md R81). -/

namespace Sys2Proof.Machine

open Sys2Proof

def exec (i : Instr) (s : State) : Host.Outcome State Fault Refusal :=
  match i with
  | .construct n => Sys2Proof.Machine.execConstruct n s
  | .solve n => Sys2Proof.Machine.execSolve n s
  | .setBitRate n => Sys2Proof.Machine.execSetBitRate n s
  | .changeBaudRate n => Sys2Proof.Machine.execChangeBaudRate n s
  | .initMsgObjects n => Sys2Proof.Machine.execInitMsgObjects n s
  | .enable n => Sys2Proof.Machine.execEnable n s
  | .disable n => Sys2Proof.Machine.execDisable n s
  | .getBitTiming n => Sys2Proof.Machine.execGetBitTiming n s
  | .release n => Sys2Proof.Machine.execRelease n s

end Sys2Proof.Machine
end

