-- ==== Sys2Proof/Machine/Agents.lean ====
section
/-! DEFINITION. The moves of the agents (spec/00_scope.md R6) and the choice of the next one; runs of one command. -/

namespace Sys2Proof.Machine

/-- The host presents a command (spec/60_exceptions.md R204, R206, R215): discarded while `cmd_busy`; else CMD and the
operands are written, and the word is decoded and refused as illegal, or its command taken or refused by `exec`. A
recorded fault has stopped the sequencer, which then neither takes nor refuses a word (R205, R206; log 10). -/
def hostMove (h : HostCmd) (s : State) : Result :=
  if s.cmdBusy then .next s.discard
  else
    match s.faults with
    | f :: _ => .fault f
    | [] =>
      match decode s.params.nInst h.word with
      | .ok i => exec i (s.latch h)
      | .error _ => .next (s.latch h).refuseIllegal

/-- The sequencer's move: the next micro-operation of the command in CMD; with no command running it waits for the
host (spec/70_reset_and_hazards.md R230) and the state stays (log 19). A recorded fault has stopped it, whether a
command runs or not (spec/60_exceptions.md R205; log 10). -/
def sequencerMove (s : State) : Result :=
  match s.faults with
  | f :: _ => .fault f
  | [] =>
    if s.cmdBusy then
      match decode s.params.nInst s.cmd with
      | .ok i => exec i s
      | .error _ => .fault .strayCommand
    else .next s

/-- The next agent's move, which `env` names; when it names none, the sequencer moves (log 2). -/
def nextMove (s : State) : Result :=
  match s.env with
  | [] => sequencerMove s
  | .host h :: rest => hostMove h (s.setEnv rest)
  | .sequencer :: rest => sequencerMove (s.setEnv rest)
  | .handler n :: rest => handlerMove n (s.setEnv rest)

/-- `k` consecutive executions of one command's meaning, stopping where one stops: for statements about a command as
a whole. -/
def execRun (i : Instr) : Nat → State → Result
  | 0, s => .next s
  | k + 1, s =>
    match exec i s with
    | .next t => execRun i k t
    | .fault f => .fault f
    | .refused r => .refused r

/-- Put a presentation of the word where the next step takes it: at the head of `env`, the command port idle
(log 15). -/
def State.present (s : State) (w : Word) : State :=
  { s with cmdBusy := false, env := .host { word := w, arg0 := none, arg1 := none } :: s.env }

end Sys2Proof.Machine
end

