-- ==== Sys2Proof/Machine/Step.lean ====
section
/-! DEFINITION. One step of CANBT: one move of one agent (spec/00_scope.md R6). -/

namespace Sys2Proof.Machine

/-- One step (R6; log 1, log 2). -/
def step (s : State) : Host.Outcome State Fault Refusal := nextMove s

/-- `s` with the command word `w` of `nbits` bits presented to it next (log 15). -/
def State.withFetchWord (s : State) (nbits w : Nat) : State :=
  s.present (BitVec.ofNat 32 (w % 2 ^ nbits))

end Sys2Proof.Machine
end

