-- ==== Sys2Proof/Safety.lean ====
section
/-! DEFINITION. What claims call a quiescent state (spec/10_state.md R49), a clean one (R47), and the invariant that every
step keeps. -/

namespace Sys2Proof.Machine

open Sys2Proof.Config

/-- Quiescent for instance i: no command runs and no IF1 transfer is pending (R49). -/
abbrev State.Quiescent (s : State) (n : InstNum) : Prop :=
  s.cmdBusy = false ∧ (s.inst n).pending = none

/-- Not refused and no fault recorded: the premise of R47. -/
abbrev State.Clean (s : State) : Prop := s.refused = false ∧ s.faults = []

/-- The message object's known-empty fields (spec/42_message_objects.md R180). -/
abbrev MsgObject.Empty (o : MsgObject) : Prop := o.arb1 = 0 ∧ o.arb2 = 0 ∧ o.mctl = 0

/-- A command runs at position `k` of its list and no fault is recorded. -/
abbrev State.RunsAt (s : State) (k : Nat) : Prop := s.cmdBusy = true ∧ s.faults = [] ∧ s.seqStep = k

/-- No command runs and no fault is recorded. -/
abbrev State.Idle (s : State) : Prop := s.cmdBusy = false ∧ s.faults = []

/-- The command has ended with a STATUS code (R41, R42). -/
abbrev State.Ended (t : State) (code : StatusByte) : Prop := t.cmdBusy = false ∧ t.status = code

/-! Frames: what two states have in common. -/

/-- The parameters, the command registers, the marks, the other agents' moves and the free-value counter. -/
abbrev SamePort (s t : State) : Prop :=
  t.params = s.params ∧ t.cmd = s.cmd ∧ t.arg0 = s.arg0 ∧ t.arg1 = s.arg1 ∧ t.refused = s.refused ∧
  t.faults = s.faults ∧ t.env = s.env

/-- RES_SEG1, RES_SEG2, RES_SJW, RES_PD. -/
abbrev SameResTiming (s t : State) : Prop :=
  t.resSeg1 = s.resSeg1 ∧ t.resSeg2 = s.resSeg2 ∧ t.resSjw = s.resSjw ∧ t.resPd = s.resPd

/-- All result registers. -/
abbrev SameResults (s t : State) : Prop := t.resRate = s.resRate ∧ SameResTiming s t

/-- The loop registers of INIT_MSG_OBJECTS. -/
abbrev SameLoops (s t : State) : Prop := t.pass = s.pass ∧ t.slot = s.slot ∧ t.polls = s.polls

/-- Every instance but i. -/
abbrev SameOthers (n : InstNum) (s t : State) : Prop := ∀ m, m ≠ n → t.inst m = s.inst m

/-- Instance i's clock, pending transfer and message objects. -/
abbrev SameTransfer (n : InstNum) (s t : State) : Prop :=
  (t.inst n).powered = (s.inst n).powered ∧ (t.inst n).pending = (s.inst n).pending ∧
  (t.inst n).objects = (s.inst n).objects

/-- Every read, by any instance's sequencer, of any width at any address, but for the addresses of the listed
registers of instance i. -/
abbrev SameMemoryBut (n : InstNum) (rs : List Reg) (s t : State) : Prop :=
  ∀ (m : InstNum) (a : Word) (w : Nat), ¬ (m = n ∧ ∃ r ∈ rs, a = s.regAddr n r) →
    memRead m a w t = memRead m a w s

/-- What each phase says of CTL.INIT and CTL.CCE (spec/10_state.md R43). -/
def PhaseBits (p : Phase) (ctl : Word) : Prop :=
  match p with
  | .reset => True
  | .configuring => initBit ctl = true ∧ cceBit ctl = true
  | .initialized => initBit ctl = false ∧ cceBit ctl = true
  | .enabled => initBit ctl = false
  | .disabled => initBit ctl = true
  | .released => True

/-- A BIT value with legal raw segments: TSEG1 ≥ 1 and TSEG2 ≤ 7 (R27). -/
def LegalSegments (b : Word) : Prop :=
  1 ≤ (b.extractLsb' 8 4).toNat ∧ (b.extractLsb' 12 4).toNat ≤ 7

/-- The phases in which the peripheral is clocked whatever TEARDOWN is (R37, R43). -/
def Phase.needsPower : Phase → Bool
  | .reset => false
  | .configuring => true
  | .initialized => true
  | .enabled => true
  | .disabled => true
  | .released => false

/-- What holds of every instance: only implemented bits are stored (R21), no transfer is pending while unpowered
(R37), the configured phases are powered, a pending transfer has one of the two command masks (R31), the phase's
control bits (R43) and legal segments in BIT (R27). -/
structure CanInst.Ok (x : CanInst) : Prop where
  stored : x.regs.implemented = x.regs
  unpowered : x.powered = false → x.pending = none
  clocked : x.phase.needsPower = true → x.powered = true
  mask : x.pending ≠ none → x.read .if1cmsk = cmskWrite ∨ x.read .if1cmsk = cmskClear
  control : PhaseBits x.phase (x.read .ctl)
  segments : x.phase.isLive = true → LegalSegments (x.read .bit)

/-- What holds of the running command at each position of its list. -/
def AtStep (i : Instr) (s : State) : Prop :=
  match i with
  | .construct n =>
    s.seqStep ≤ 6 ∧
    (s.seqStep ≤ 3 → (s.inst n).phase.allowsConstruct = true) ∧
    (1 ≤ s.seqStep → (s.inst n).powered = true) ∧
    (4 ≤ s.seqStep → (s.inst n).phase = .configuring ∧ (s.inst n).read .ctl = ctlInitCce) ∧
    (5 ≤ s.seqStep → LegalSegments ((s.inst n).read .bit)) ∧
    (s.seqStep = 6 → s.loc.c = ctlInitCce)
  | .solve n => s.seqStep = 0 ∧ (s.inst n).phase ≠ .configuring
  | .setBitRate n =>
    s.seqStep ≤ 5 ∧
    (s.seqStep ≤ 2 → (s.inst n).phase.isLive = true) ∧
    (1 ≤ s.seqStep → s.loc.sol.entry.Legal) ∧
    (s.seqStep = 2 → s.savedCtl = (s.inst n).read .ctl) ∧
    (3 ≤ s.seqStep → (s.inst n).phase = .configuring ∧ s.loc.priorPhase.isLive = true ∧
      PhaseBits s.loc.priorPhase s.savedCtl) ∧
    (4 ≤ s.seqStep → LegalSegments ((s.inst n).read .bit))
  | .changeBaudRate n =>
    s.seqStep ≤ 5 ∧ (s.inst n).phase.isLive = true ∧
    (s.seqStep = 2 → s.loc.c = (s.inst n).read .ctl) ∧
    (s.seqStep = 5 → s.loc.c2 = (s.inst n).read .ctl)
  | .initMsgObjects n =>
    s.seqStep ≤ 10 ∧ (s.inst n).phase.isLive = true ∧
    (s.seqStep ∈ [1, 2, 3, 4, 6, 8, 10] → (s.inst n).pending = none) ∧
    (s.seqStep ∈ [2, 3, 4, 5, 6] → (s.inst n).read .if1cmsk = cmskWrite) ∧
    (s.seqStep ∈ [9, 10] → (s.inst n).read .if1cmsk = cmskClear) ∧
    (s.seqStep ∈ [5, 6, 9, 10] → 1 ≤ s.slot ∧ s.slot ≤ 32)
  | .enable n =>
    s.seqStep ≤ 1 ∧ (s.inst n).phase.isLive = true ∧
    (s.seqStep = 1 → s.loc.c = (s.inst n).read .ctl)
  | .disable n =>
    s.seqStep ≤ 1 ∧ (s.inst n).phase.isLive = true ∧
    (s.seqStep = 1 → s.loc.c = (s.inst n).read .ctl)
  | .getBitTiming n => s.seqStep ≤ 1 ∧ (s.inst n).phase.isLive = true
  | .release n =>
    (s.inst n).phase.isLive = true ∧
    (s.seqStep = 0 ∨ s.seqStep = 1 ∧ s.params.teardown = .disable ∧ s.loc.c = (s.inst n).read .ctl)

/-- The invariant of CANBT. -/
structure State.Inv (s : State) : Prop where
  params : s.params.Wf
  insts : ∀ n, (s.inst n).Ok
  clean : s.faults = []
  idle : s.cmdBusy = false → s.loc = Locals.idle
  configuring : ∀ n, (s.inst n).phase = .configuring →
    s.cmdBusy = true ∧ ∃ i, decode s.params.nInst s.cmd = .ok i ∧ i.inst = n
  running : s.cmdBusy = true → ∃ i, decode s.params.nInst s.cmd = .ok i ∧ AtStep i s

end Sys2Proof.Machine
end

