-- ==== Sys2Proof/Certificates/Slice0/Obligations.lean ====
section
/-! DEFINITION. The statements for the provers. Each docstring says which rule of spec/ it formalises. STATUS codes,
masks and field positions are written out, so that a statement does not rest on the model's own names for them. -/

open Sys2Proof Sys2Proof.Machine Sys2Proof.Config

/-! ### Encoding -/

/-- spec/30_encoding.md R80, R81, R86: decoding the word of a well-formed command gives it back. -/
def Obligations.DecodeOfEncode : Prop :=
  ∀ (nInst : Nat) (i : Instr), i.wf nInst = true → decode nInst (encode i) = .ok i

/-- R80, R83: a word has at most one meaning; the encoder gives back every legal word, bit for bit. -/
def Obligations.EncodeOfDecode : Prop :=
  ∀ (nInst : Nat) (w : Word) (i : Instr), decode nInst w = .ok i → encode i = w ∧ i.wf nInst = true

/-- R83, R81: legality, the command a legal word selects, and totality. -/
def Obligations.LegalWordsAreExactlyTheOpcodeMap : Prop :=
  ∀ (nInst : Nat) (w : Word),
    (w.toNat / 256 = 0 ∧ 1 ≤ w.toNat % 16 ∧ w.toNat % 16 ≤ 9 ∧ w.toNat / 16 % 16 < nInst →
      ∃ n : InstNum, n.toNat = w.toNat / 16 % 16 ∧
        (w.toNat % 16 = 0x1 → decode nInst w = .ok (.construct n)) ∧
        (w.toNat % 16 = 0x2 → decode nInst w = .ok (.solve n)) ∧
        (w.toNat % 16 = 0x3 → decode nInst w = .ok (.setBitRate n)) ∧
        (w.toNat % 16 = 0x4 → decode nInst w = .ok (.changeBaudRate n)) ∧
        (w.toNat % 16 = 0x5 → decode nInst w = .ok (.initMsgObjects n)) ∧
        (w.toNat % 16 = 0x6 → decode nInst w = .ok (.enable n)) ∧
        (w.toNat % 16 = 0x7 → decode nInst w = .ok (.disable n)) ∧
        (w.toNat % 16 = 0x8 → decode nInst w = .ok (.getBitTiming n)) ∧
        (w.toNat % 16 = 0x9 → decode nInst w = .ok (.release n))) ∧
    (¬ (w.toNat / 256 = 0 ∧ 1 ≤ w.toNat % 16 ∧ w.toNat % 16 ≤ 9 ∧ w.toNat / 16 % 16 < nInst) →
      ∃ e, decode nInst w = .error e)

/-- The command words of spec/95_test_vectors.md E1 to E9 under N_INSTANCES = 2. -/
def Obligations.VectorWordsDecode : Prop :=
  decode 2 0x00000001 = .ok (.construct 0) ∧ decode 2 0x00000015 = .ok (.initMsgObjects 1) ∧
  decode 2 0x00000019 = .ok (.release 1) ∧ decode 2 0x00000000 = .error .reservedOpcode ∧
  decode 2 0x0000000A = .error .reservedOpcode ∧ decode 2 0x0000000F = .error .reservedOpcode ∧
  decode 2 0x00000102 = .error .reservedBits ∧ decode 2 0x00000022 = .error .noSuchInst ∧
  decode 2 0x80000003 = .error .reservedBits

/-- R87, R88: committing a legal timing and reading it back gives the same four values; BIT has its reserved bits
zero and BRPE only four bits. -/
def Obligations.TimingFieldsRoundTrip : Prop :=
  ∀ (e : TimingEntry) (pd : Nat), e.Legal → 1 ≤ pd → pd ≤ 1024 →
    (decodeSeg1 (encodeBit e pd)).toNat = e.seg1 ∧ (decodeSeg2 (encodeBit e pd)).toNat = e.seg2 ∧
    (decodeSjw (encodeBit e pd)).toNat = e.sjw ∧ (decodePd (encodeBit e pd) (encodeBrpe pd)).toNat = pd ∧
    (encodeBit e pd).toNat < 2 ^ 16 ∧ (encodeBrpe pd).toNat < 2 ^ 4

/-- R88: the read-back decoding of any two register values. -/
def Obligations.ReadBackDecoding : Prop :=
  ∀ (b e : Word),
    (decodeSeg1 b).toNat = b.toNat / 2 ^ 8 % 16 + 1 ∧ (decodeSeg2 b).toNat = b.toNat / 2 ^ 12 % 16 + 1 ∧
    (decodeSjw b).toNat = b.toNat / 2 ^ 6 % 4 + 1 ∧
    (decodePd b e).toNat = (e.toNat % 16) * 64 + b.toNat % 64 + 1

/-! ### Steps -/

/-- A step runs the decoded command: a host's move on an idle port runs the word it presents (CMD and the operands
written first, R40, R86), a sequencer's move the word in CMD (R6, R44). The choice of the mover is the model's own
(log 2). -/
def Obligations.StepRunsTheDecodedCommand : Prop :=
  ∀ (s : State) (i : Instr),
    (∀ (h : HostCmd) (rest : List Turn), s.env = .host h :: rest → s.cmdBusy = false →
      decode s.params.nInst h.word = .ok i → step s = exec i ((s.setEnv rest).latch h)) ∧
    (∀ rest : List Turn, s.env = .sequencer :: rest → s.cmdBusy = true →
      decode s.params.nInst s.cmd = .ok i → step s = exec i (s.setEnv rest)) ∧
    (s.env = [] → s.cmdBusy = true → decode s.params.nInst s.cmd = .ok i → step s = exec i s)

/-- The word that `withFetchWord` places is the one the very next step runs (the model's own convention, log 15). -/
def Obligations.PlacedWordRunsNext : Prop :=
  ∀ (s : State) (w : Word) (i : Instr), decode s.params.nInst w = .ok i →
    step (s.withFetchWord 32 w.toNat) = exec i { s with cmdBusy := false, cmd := w }

/-- R84: an illegal word presented to the idle port, no fault being recorded (R206), completes at once with STATUS =
0x80, sets `refused`, and touches no register of any instance and no result register. -/
def Obligations.IllegalWordIsRefused : Prop :=
  ∀ (s : State) (h : HostCmd) (rest : List Turn), s.env = .host h :: rest → s.Idle →
    ¬ (h.word.toNat / 256 = 0 ∧ 1 ≤ h.word.toNat % 16 ∧ h.word.toNat % 16 ≤ 9 ∧
      h.word.toNat / 16 % 16 < s.params.nInst) →
    ∃ t, step s = .next t ∧ t.Ended 0x80 ∧ t.refused = true ∧ t.insts = s.insts ∧ SameResults s t ∧
      SameLoops s t ∧ t.faults = s.faults ∧ t.savedCtl = s.savedCtl ∧ t.params = s.params ∧
      t.freeCtr = s.freeCtr ∧ t.loc = s.loc

/-- R40, R86: a presentation to the idle port, no fault being recorded, taken or refused, leaves CMD with the word
and the operand registers with the values given, or as they were where the line gives none. That a refused
presentation writes them too is the model's deduction (log 8). -/
def Obligations.PresentationWritesTheHostRegisters : Prop :=
  ∀ (s : State) (h : HostCmd) (rest : List Turn), s.env = .host h :: rest → s.Idle →
    ∃ t, step s = .next t ∧ t.cmd = h.word ∧ t.arg0 = h.arg0.getD s.arg0 ∧ t.arg1 = h.arg1.getD s.arg1 ∧
      t.insts = s.insts ∧ SameResults s t ∧ t.env = rest

/-- spec/60_exceptions.md R204: the phase table, no fault being recorded (R206). A presented command is taken when its
phase allows it, and only `cmd_busy`, `step` (and for INIT_MSG_OBJECTS `polls`, log 9) change; otherwise STATUS =
0x81, `refused` is set, and nothing else changes. -/
def Obligations.PhaseTableGatesCommands : Prop :=
  ∀ (i : Instr) (s : State), s.Idle →
    let p := (s.inst i.inst).phase
    let live := p = .initialized ∨ p = .enabled ∨ p = .disabled
    let legal := match i with
      | .construct _ => p = .reset ∨ p = .released
      | .solve _ => True
      | .setBitRate _ => live
      | .changeBaudRate _ => live
      | .initMsgObjects _ => live
      | .enable _ => live
      | .disable _ => live
      | .getBitTiming _ => live
      | .release _ => live
    (legal → ∃ k, exec i s = .next { s with cmdBusy := true, seqStep := 0, polls := k } ∧
      (k = s.polls ∨ (∃ n, i = .initMsgObjects n) ∧ k = 0)) ∧
    (¬ legal → exec i s = .next { s with status := 0x81, refused := true })

/-- R204, R206 (1): a word presented while a command runs is discarded: the mark is set and nothing else
changes. That the operands presented with it are discarded too is the model's deduction (log 7). -/
def Obligations.BusyPresentationIsDiscarded : Prop :=
  ∀ (s : State) (h : HostCmd) (rest : List Turn), s.env = .host h :: rest → s.cmdBusy = true →
    step s = .next { s with env := rest, refused := true }

/-- R41, R215: the host reads STATUS and each of the five result registers when no command runs, and no defined value
while one does. -/
def Obligations.HostReadsOnlyWhenIdle : Prop :=
  ∀ (s : State) (r : HostReg),
    (s.cmdBusy = true → s.hostRead r = none) ∧
    (s.cmdBusy = false → s.hostRead .status = some (s.status.setWidth 32) ∧ s.hostRead .resRate = some s.resRate ∧
      (s.hostRead .resSeg1).map BitVec.toNat = some s.resSeg1.toNat ∧
      (s.hostRead .resSeg2).map BitVec.toNat = some s.resSeg2.toNat ∧
      (s.hostRead .resSjw).map BitVec.toNat = some s.resSjw.toNat ∧
      (s.hostRead .resPd).map BitVec.toNat = some s.resPd.toNat)

/-! ### The solver -/

/-- spec/40_solver.md R108: the search succeeds exactly when the start ratio is at most 19456, and then accepts the
least ratio from the start that some q in 4..19 divides with a quotient of at most 1024. -/
def Obligations.SearchAcceptsTheLeastRatio : Prop :=
  ∀ clk rate : Nat, rate ≠ 0 →
    ((search clk rate).isSome = true ↔ startRatio clk rate ≤ 19456) ∧
    ∀ r k, search clk rate = some (r, k) →
      startRatio clk rate ≤ r ∧ r ≤ 19456 ∧ r % quanta k = 0 ∧ r / quanta k ≤ 1024 ∧
      ∀ r', startRatio clk rate ≤ r' → r' < r →
        ∀ q, 4 ≤ q → q ≤ 19 → ¬ (r' % q = 0 ∧ r' / q ≤ 1024)

/-- R110: on success q is the largest divisor of the ratio in 4..19, and the pre-divisor is the quotient. -/
def Obligations.SearchTakesTheLargestDivisor : Prop :=
  ∀ (table : Vector TimingEntry 16) (clk rate : Nat) (sol : Solution), solveFor table clk rate = some sol →
    4 ≤ quanta sol.qIdx ∧ quanta sol.qIdx ≤ 19 ∧ sol.ratio % quanta sol.qIdx = 0 ∧
    (∀ q, 4 ≤ q → q ≤ 19 → sol.ratio % q = 0 → q ≤ quanta sol.qIdx) ∧
    sol.pd = sol.ratio / quanta sol.qIdx

/-- R109, R106, R105: on success the achieved rate is at most the target, `pd * q` is the searched ratio, the
pre-divisor is in 1..1024, and the timing values are the table's entry for q. -/
def Obligations.AchievedRateIsAtMostTheTarget : Prop :=
  ∀ (table : Vector TimingEntry 16) (clk rate : Word) (sol : Solution),
    solveFor table clk.toNat rate.toNat = some sol →
    (achieved clk sol).toNat = clk.toNat / sol.ratio ∧ (achieved clk sol).toNat ≤ rate.toNat ∧
    sol.pd * quanta sol.qIdx = sol.ratio ∧ 1 ≤ sol.pd ∧ sol.pd ≤ 1024 ∧
    sol.entry = table[quanta sol.qIdx - 4]'(by unfold quanta qpbMin; omega)

/-- R103: the search starts at r0 = clk div rate, or at r0 + 1 exactly when r0 = 0 or clk div r0 exceeds the target;
so the achieved rate at the start does not exceed the target, and for 32-bit operands the start fits 32 bits. -/
def Obligations.StartRatioIsRoundedUp : Prop :=
  ∀ clk rate : Nat, rate ≠ 0 →
    ((clk / rate = 0 ∨ rate < clk / (clk / rate)) → startRatio clk rate = clk / rate + 1) ∧
    (¬ (clk / rate = 0 ∨ rate < clk / (clk / rate)) → startRatio clk rate = clk / rate) ∧
    1 ≤ startRatio clk rate ∧ clk / startRatio clk rate ≤ rate ∧
    (clk < 2 ^ 32 → rate < 2 ^ 32 → startRatio clk rate < 2 ^ 32)

/-- R102: SOLVE with a solution writes RES_RATE = clk div (pd * q), the table's entry, pd and STATUS = OK, and nothing
else: no register of any instance changes. The model's own: its internal registers return to their idle value (log 6),
and a table entry too wide for a result register would be truncated to it (log 21). -/
def Obligations.SolveWritesItsResults : Prop :=
  ∀ (n : InstNum) (s : State) (sol : Solution), s.RunsAt 0 →
    solveFor s.params.table s.arg0.toNat s.arg1.toNat = some sol →
    exec (.solve n) s = .next { s with
      resRate := BitVec.ofNat 32 (s.arg0.toNat / (sol.pd * quanta sol.qIdx))
      resSeg1 := BitVec.ofNat 11 sol.entry.seg1
      resSeg2 := BitVec.ofNat 11 sol.entry.seg2
      resSjw := BitVec.ofNat 11 sol.entry.sjw
      resPd := BitVec.ofNat 11 sol.pd
      status := 0x00
      cmdBusy := false
      loc := Locals.idle }

/-- R107, R201, R207: SOLVE and SET_BIT_RATE end in 0x01 when ARG1 = 0 or the start ratio passes 19456, and
CHANGE_BAUD_RATE when ARG1 = 0: only STATUS and `cmd_busy` change, and the model's internal
registers return to their idle value (the model's choice, log 6). -/
def Obligations.BitrateNotFoundChangesNothingElse : Prop :=
  ∀ (n : InstNum) (s : State), s.RunsAt 0 →
    let t := { s with status := 0x01, cmdBusy := false, loc := Locals.idle }
    (s.arg1 = 0 ∨ 19456 < startRatio s.arg0.toNat s.arg1.toNat →
      exec (.solve n) s = .next t ∧ exec (.setBitRate n) s = .next t) ∧
    (s.arg1 = 0 → exec (.changeBaudRate n) s = .next t)

/-! ### The controller's commands -/

/-- spec/41_controller.md R132: seven micro-operations from `step` 0 power the instance, reset it, and leave CTL =
0x40, BIT = DEFAULT_BIT, the other registers at RESET_VALUES, no transfer pending, INITIALIZED and STATUS = OK. The
message objects are the free value of log 5, whatever it is. -/
def Obligations.ConstructCompletes : Prop :=
  ∀ (n : InstNum) (s : State), s.params.Wf → s.RunsAt 0 →
    ∃ t, execRun (.construct n) 7 s = .next t ∧ t.Ended 0x00 ∧
      (t.inst n).powered = true ∧ (t.inst n).phase = .initialized ∧ (t.inst n).pending = none ∧
      (t.inst n).objects = freeObjects s.freeCtr ∧
      (t.inst n).read .ctl = 0x40 ∧ (t.inst n).read .bit = s.params.defaultBit ∧
      (t.inst n).read .brpe = s.params.resetValues.brpe ∧
      (t.inst n).read .if1crq = s.params.resetValues.if1crq &&& 0x3F ∧
      (t.inst n).read .if1cmsk = s.params.resetValues.if1cmsk ∧
      (t.inst n).read .if1arb1 = s.params.resetValues.if1arb1 ∧
      (t.inst n).read .if1arb2 = s.params.resetValues.if1arb2 ∧
      (t.inst n).read .if1mctl = s.params.resetValues.if1mctl ∧
      SameOthers n s t ∧ SamePort s t ∧ SameResults s t ∧ SameLoops s t ∧ t.savedCtl = s.savedCtl ∧
      (∀ m a w, m ≠ n → memRead m a w t = memRead m a w s)

/-- R132 steps 3 to 5: step 3 enters CONFIGURING with CTL = INIT
and CCE, and the write of BIT and the read of CTL leave both as they are, until step 6. -/
def Obligations.ConstructEntersConfiguring : Prop :=
  ∀ (n : InstNum) (s : State), s.params.Wf → (s.inst n).powered = true →
    (s.RunsAt 3 → ∃ t, exec (.construct n) s = .next t ∧ t.RunsAt 4 ∧ (t.inst n).phase = .configuring ∧
      (t.inst n).read .ctl = 0x41 ∧ SameMemoryBut n [.ctl] s t ∧ SameOthers n s t ∧ SameTransfer n s t) ∧
    (s.RunsAt 4 → ∃ t, exec (.construct n) s = .next t ∧ t.RunsAt 5 ∧ (t.inst n).phase = (s.inst n).phase ∧
      SameMemoryBut n [.bit] s t ∧ SameOthers n s t ∧ SameTransfer n s t) ∧
    (s.RunsAt 5 → ∃ t, exec (.construct n) s = .next t ∧ t.RunsAt 6 ∧ (t.inst n).phase = (s.inst n).phase ∧
      SameMemoryBut n [] s t ∧ SameOthers n s t ∧ SameTransfer n s t)

/-- R133: what CONSTRUCT does, presented or running, does not depend on ARG0 or ARG1: running any number of its
micro-operations with other operands gives the same state but for the operands. -/
def Obligations.ConstructIgnoresItsOperands : Prop :=
  ∀ (n : InstNum) (k : Nat) (s t : State) (a b : Word),
    execRun (.construct n) k s = .next t →
    execRun (.construct n) k { s with arg0 := a, arg1 := b } = .next { t with arg0 := a, arg1 := b }

/-- R140: six micro-operations commit the solution. CTL ends as it was, BIT and BRPE hold the encoded timing
whatever TIMING_WRITE_PROTECT is, `phase` ends as it was, RES_RATE is the achieved rate, `saved_ctl` the CTL read; no
other register, object or result changes. -/
def Obligations.SetBitRateCompletes : Prop :=
  ∀ (n : InstNum) (s : State) (sol : Solution), s.params.Wf → s.RunsAt 0 → (s.inst n).powered = true →
    solveFor s.params.table s.arg0.toNat s.arg1.toNat = some sol →
    ∃ t, execRun (.setBitRate n) 6 s = .next t ∧ t.Ended 0x00 ∧
      (t.inst n).read .ctl = (s.inst n).read .ctl ∧
      ((t.inst n).read .bit).toNat = (sol.entry.seg2 - 1) * 2 ^ 12 + (sol.entry.seg1 - 1) * 2 ^ 8 +
        (sol.entry.sjw - 1) * 2 ^ 6 + (sol.pd - 1) % 64 ∧
      ((t.inst n).read .brpe).toNat = (sol.pd - 1) / 64 ∧
      (t.inst n).phase = (s.inst n).phase ∧
      t.resRate = BitVec.ofNat 32 (s.arg0.toNat / (sol.pd * quanta sol.qIdx)) ∧
      t.savedCtl = (s.inst n).read .ctl ∧
      SameTransfer n s t ∧ SameOthers n s t ∧ SamePort s t ∧ SameResTiming s t ∧ SameLoops s t ∧
      t.freeCtr = s.freeCtr ∧ SameMemoryBut n [.bit, .brpe] s t

/-- R140 step 2: SET_BIT_RATE re-enters CONFIGURING with INIT and CCE set and the other CTL bits as read. -/
def Obligations.SetBitRateEntersConfiguring : Prop :=
  ∀ (n : InstNum) (s : State), s.params.Wf → s.RunsAt 2 → (s.inst n).powered = true →
    s.savedCtl = (s.inst n).read .ctl →
    ∃ t, exec (.setBitRate n) s = .next t ∧ t.RunsAt 3 ∧ (t.inst n).phase = .configuring ∧
      (t.inst n).read .ctl = (s.inst n).read .ctl ||| 0x41 ∧ SameMemoryBut n [.ctl] s t ∧
      SameOthers n s t ∧ SameTransfer n s t ∧ t.savedCtl = s.savedCtl

/-- R141: a SET_BIT_RATE that ends in ERR_BITRATE_NOT_FOUND has changed no register, `saved_ctl`, `phase` or
RES_RATE: it ends in its step 0, the solver's, before any register access, and that step changes STATUS, `cmd_busy` and
the command's internal registers only. -/
def Obligations.SetBitRateFailureTouchesNoRegister : Prop :=
  ∀ (n : InstNum) (s t : State), s.cmdBusy = true → exec (.setBitRate n) s = .next t → t.cmdBusy = false →
    t.status = 0x01 →
    s.seqStep = 0 ∧ t.insts = s.insts ∧ t.savedCtl = s.savedCtl ∧ SameResults s t ∧ SamePort s t ∧ SameLoops s t ∧
      t.freeCtr = s.freeCtr

/-- R142: the round trip. After SET_BIT_RATE commits a solution, GET_BIT_TIMING run from any later state in which BIT
and BRPE read as SET_BIT_RATE left them returns the same four values. -/
def Obligations.CommittedTimingReadsBack : Prop :=
  ∀ (n : InstNum) (s : State) (sol : Solution), s.params.Wf → s.RunsAt 0 → (s.inst n).powered = true →
    solveFor s.params.table s.arg0.toNat s.arg1.toNat = some sol →
    ∃ t, execRun (.setBitRate n) 6 s = .next t ∧
      ∀ u : State, u.params = s.params → u.RunsAt 0 → (u.inst n).powered = true →
        (u.inst n).read .bit = (t.inst n).read .bit → (u.inst n).read .brpe = (t.inst n).read .brpe →
        ∃ v, execRun (.getBitTiming n) 2 u = .next v ∧ v.Ended 0x00 ∧
          v.resSeg1.toNat = sol.entry.seg1 ∧ v.resSeg2.toNat = sol.entry.seg2 ∧
          v.resSjw.toNat = sol.entry.sjw ∧ v.resPd.toNat = sol.pd

/-- R150: six micro-operations of CHANGE_BAUD_RATE with ARG1 ≠ 0. CTL ends as it was with IE set; BRPE keeps v[3:0]
of v = ((clk * 8) div rate + 1) div 2 when the write takes effect (R29), else stays; nothing else changes. -/
def Obligations.ChangeBaudRateCompletes : Prop :=
  ∀ (n : InstNum) (s : State), s.params.Wf → s.RunsAt 0 → (s.inst n).powered = true → s.arg1 ≠ 0 →
    ∃ t, execRun (.changeBaudRate n) 6 s = .next t ∧ t.Ended 0x00 ∧
      (t.inst n).read .ctl = (s.inst n).read .ctl ||| 0x2 ∧
      (s.params.writeProtect = false ∨
          (((s.inst n).read .ctl).getLsbD 0 = true ∧ ((s.inst n).read .ctl).getLsbD 6 = true) →
        ((t.inst n).read .brpe).toNat = ((s.arg0.toNat * 8) / s.arg1.toNat + 1) / 2 % 16) ∧
      (s.params.writeProtect = true →
        ¬ (((s.inst n).read .ctl).getLsbD 0 = true ∧ ((s.inst n).read .ctl).getLsbD 6 = true) →
        (t.inst n).read .brpe = (s.inst n).read .brpe) ∧
      (t.inst n).phase = (s.inst n).phase ∧ SameTransfer n s t ∧ SameOthers n s t ∧ SamePort s t ∧
      SameResults s t ∧ SameLoops s t ∧ t.savedCtl = s.savedCtl ∧ t.freeCtr = s.freeCtr ∧
      SameMemoryBut n [.ctl, .brpe] s t

/-- R150 step 2: CHANGE_BAUD_RATE first clears IE alone. -/
def Obligations.ChangeBaudRateClearsIeFirst : Prop :=
  ∀ (n : InstNum) (s : State), s.params.Wf → s.RunsAt 2 → (s.inst n).powered = true →
    s.loc.c = (s.inst n).read .ctl →
    ∃ t, exec (.changeBaudRate n) s = .next t ∧ t.RunsAt 3 ∧
      (t.inst n).read .ctl = (s.inst n).read .ctl &&& ~~~0x2 ∧ SameMemoryBut n [.ctl] s t ∧ SameOthers n s t

/-- R155: ENABLE's two micro-operations clear CTL.INIT alone and enter ENABLED. -/
def Obligations.EnableCompletes : Prop :=
  ∀ (n : InstNum) (s : State), s.params.Wf → s.RunsAt 0 → (s.inst n).powered = true →
    ∃ m t, exec (.enable n) s = .next m ∧ exec (.enable n) m = .next t ∧ t.Ended 0x00 ∧
      (t.inst n).phase = .enabled ∧ (t.inst n).read .ctl = (s.inst n).read .ctl &&& ~~~0x1 ∧
      SameTransfer n s t ∧ SameOthers n s t ∧ SamePort s t ∧ SameResults s t ∧ SameLoops s t ∧
      t.savedCtl = s.savedCtl ∧ t.freeCtr = s.freeCtr ∧ SameMemoryBut n [.ctl] s t

/-- R156: DISABLE's two micro-operations set CTL.INIT alone and enter DISABLED. -/
def Obligations.DisableCompletes : Prop :=
  ∀ (n : InstNum) (s : State), s.params.Wf → s.RunsAt 0 → (s.inst n).powered = true →
    ∃ m t, exec (.disable n) s = .next m ∧ exec (.disable n) m = .next t ∧ t.Ended 0x00 ∧
      (t.inst n).phase = .disabled ∧ (t.inst n).read .ctl = (s.inst n).read .ctl ||| 0x1 ∧
      SameTransfer n s t ∧ SameOthers n s t ∧ SamePort s t ∧ SameResults s t ∧ SameLoops s t ∧
      t.savedCtl = s.savedCtl ∧ t.freeCtr = s.freeCtr ∧ SameMemoryBut n [.ctl] s t

/-- R157: a second DISABLE, presented and run, leaves every part of the state as the first left it; likewise
ENABLE. -/
def Obligations.EnableAndDisableAreIdempotent : Prop :=
  ∀ (n : InstNum) (s t : State), s.params.Wf → s.RunsAt 0 → (s.inst n).powered = true →
    (execRun (.disable n) 2 s = .next t → execRun (.disable n) 3 t = .next t) ∧
    (execRun (.enable n) 2 s = .next t → execRun (.enable n) 3 t = .next t)

/-- R160: GET_BIT_TIMING's two micro-operations read BIT and BRPE into the four results and change no register. -/
def Obligations.GetBitTimingCompletes : Prop :=
  ∀ (n : InstNum) (s : State), s.params.Wf → s.RunsAt 0 → (s.inst n).powered = true →
    ∃ m t, exec (.getBitTiming n) s = .next m ∧ exec (.getBitTiming n) m = .next t ∧ t.Ended 0x00 ∧
      t.resSeg1.toNat = ((s.inst n).read .bit).toNat / 2 ^ 8 % 16 + 1 ∧
      t.resSeg2.toNat = ((s.inst n).read .bit).toNat / 2 ^ 12 % 16 + 1 ∧
      t.resSjw.toNat = ((s.inst n).read .bit).toNat / 2 ^ 6 % 4 + 1 ∧
      t.resPd.toNat = ((s.inst n).read .brpe).toNat % 16 * 64 + ((s.inst n).read .bit).toNat % 64 + 1 ∧
      t.resRate = s.resRate ∧ t.insts = s.insts ∧ SamePort s t ∧ SameLoops s t ∧ t.savedCtl = s.savedCtl ∧
      t.freeCtr = s.freeCtr ∧ SameMemoryBut n [] s t

/-- R165: RELEASE by TEARDOWN. LEAVE makes no register access; DISABLE sets CTL.INIT; POWER_OFF unpowers the instance,
drops the pending transfer, and leaves its objects a free value (log 5). All end in RELEASED with STATUS = OK. The
model's own: that LEAVE, to which R165 gives no micro-operation, ends in one execution is its deduction (log 1), and that
an access of a wrong width or alignment to the unpowered instance is NO_CLOCK before BAD_ACCESS is its choice (log 11). -/
def Obligations.ReleaseCompletes : Prop :=
  ∀ (n : InstNum) (s : State), s.params.Wf → s.RunsAt 0 → (s.inst n).powered = true →
    (s.params.teardown = .leave → ∃ t, exec (.release n) s = .next t ∧ t.Ended 0x00 ∧
      (t.inst n).phase = .released ∧ SameTransfer n s t ∧ SameOthers n s t ∧ SamePort s t ∧ SameResults s t ∧
      SameLoops s t ∧ t.savedCtl = s.savedCtl ∧ SameMemoryBut n [] s t) ∧
    (s.params.teardown = .disable → ∃ m t, exec (.release n) s = .next m ∧ exec (.release n) m = .next t ∧
      t.Ended 0x00 ∧ (t.inst n).phase = .released ∧ (t.inst n).read .ctl = (s.inst n).read .ctl ||| 0x1 ∧
      SameTransfer n s t ∧ SameOthers n s t ∧ SamePort s t ∧ SameResults s t ∧ SameLoops s t ∧
      t.savedCtl = s.savedCtl ∧ SameMemoryBut n [.ctl] s t) ∧
    (s.params.teardown = .powerOff → ∃ t, exec (.release n) s = .next t ∧ t.Ended 0x00 ∧
      (t.inst n).phase = .released ∧ (t.inst n).powered = false ∧ (t.inst n).pending = none ∧
      (t.inst n).objects = freeObjects s.freeCtr ∧ SameOthers n s t ∧ SamePort s t ∧ SameResults s t ∧
      SameLoops s t ∧ t.savedCtl = s.savedCtl ∧ (∀ a w, memRead n a w t = .error .noClock) ∧
      (∀ m a w, m ≠ n → memRead m a w t = memRead m a w s))

/-! ### Message objects -/

/-- spec/42_message_objects.md R170, labels P1b to P1e and P2b: the setup writes of each pass, with no transfer
pending, and what they leave. The positions, and the step in which `pass`, `slot` and `polls` are set, are the model's
deduction (log 9). -/
def Obligations.PassSetupWrites : Prop :=
  ∀ (n : InstNum) (s : State), s.params.Wf → (s.inst n).powered = true → (s.inst n).pending = none →
    (s.RunsAt 1 → ∃ t, exec (.initMsgObjects n) s = .next t ∧ t.RunsAt 2 ∧ (t.inst n).read .if1cmsk = 0xB0 ∧
      SameMemoryBut n [.if1cmsk] s t) ∧
    (s.RunsAt 2 → ∃ t, exec (.initMsgObjects n) s = .next t ∧ t.RunsAt 3 ∧ (t.inst n).read .if1arb1 = 0 ∧
      SameMemoryBut n [.if1arb1] s t) ∧
    (s.RunsAt 3 → ∃ t, exec (.initMsgObjects n) s = .next t ∧ t.RunsAt 4 ∧ (t.inst n).read .if1arb2 = 0 ∧
      SameMemoryBut n [.if1arb2] s t) ∧
    (s.RunsAt 4 → ∃ t, exec (.initMsgObjects n) s = .next t ∧ t.RunsAt 5 ∧ (t.inst n).read .if1mctl = 0 ∧
      t.pass = .one ∧ t.slot = 1 ∧ t.polls = 0 ∧ SameMemoryBut n [.if1mctl] s t) ∧
    (s.RunsAt 8 → ∃ t, exec (.initMsgObjects n) s = .next t ∧ t.RunsAt 9 ∧ (t.inst n).read .if1cmsk = 0x0C ∧
      t.pass = .two ∧ t.slot = 1 ∧ t.polls = 0 ∧ SameMemoryBut n [.if1cmsk] s t) ∧
    (∀ t, s.RunsAt 1 ∨ s.RunsAt 2 ∨ s.RunsAt 3 ∨ s.RunsAt 4 ∨ s.RunsAt 8 → exec (.initMsgObjects n) s = .next t →
      (t.inst n).phase = (s.inst n).phase ∧ SameTransfer n s t ∧ SameOthers n s t ∧ SamePort s t ∧ SameResults s t ∧
      t.savedCtl = s.savedCtl ∧ t.freeCtr = s.freeCtr)

/-- R170 labels P1r and P2r, R172: the request of slot k starts the transfer of object k and goes to the next slot's
wait; after slot 32 pass 1 goes to P2a, and pass 2 ends the command with STATUS = OK. The positions, and the step in
which `slot` moves and `polls` is zeroed, are the model's deduction (log 9). -/
def Obligations.SlotRequestStartsItsTransfer : Prop :=
  ∀ (n : InstNum) (s : State), s.params.Wf → (s.inst n).powered = true → (s.inst n).pending = none →
    1 ≤ s.slot → s.slot ≤ 32 → s.RunsAt 6 ∨ s.RunsAt 10 →
    ∃ t, exec (.initMsgObjects n) s = .next t ∧
      ((t.inst n).pending).map (fun k => k.val + 1) = some s.slot ∧
      ((t.inst n).read .if1crq).toNat = 2 ^ 15 + s.slot ∧ t.slot = s.slot + 1 ∧
      (s.slot < 32 → s.seqStep = 6 → t.RunsAt 5 ∧ t.polls = 0) ∧
      (s.slot < 32 → s.seqStep = 10 → t.RunsAt 9 ∧ t.polls = 0) ∧
      (s.slot = 32 → s.seqStep = 6 → t.RunsAt 7 ∧ t.polls = 0) ∧
      (s.slot = 32 → s.seqStep = 10 → t.Ended 0x00) ∧
      (t.inst n).objects = (s.inst n).objects ∧ (t.inst n).phase = (s.inst n).phase ∧ SameOthers n s t ∧
      SamePort s t ∧ SameResults s t ∧ t.savedCtl = s.savedCtl ∧ SameMemoryBut n [.if1crq] s t

/-- R171: one read of a wait (P1a, P1w, P2a, P2w). BUSY clear goes on; BUSY set is counted and the read repeats, or,
when the count reaches a finite POLL_LIMIT, the command ends with STATUS = 0x02 and nothing else changes (R179), but that
the model's internal registers return to their idle value (log 6). The positions are log 9's. -/
def Obligations.WaitPollsBusy : Prop :=
  ∀ (n : InstNum) (s : State) (k : Nat), s.params.Wf → (s.inst n).powered = true →
    k = 0 ∨ k = 5 ∨ k = 7 ∨ k = 9 → s.RunsAt k →
    ((s.inst n).pending = none → exec (.initMsgObjects n) s = .next { s with seqStep := k + 1 }) ∧
    ((s.inst n).pending ≠ none → (∀ limit, s.params.pollLimit = some limit → s.polls + 1 < limit) →
      exec (.initMsgObjects n) s = .next { s with polls := s.polls + 1 }) ∧
    ((s.inst n).pending ≠ none → (∃ limit, s.params.pollLimit = some limit ∧ limit ≤ s.polls + 1) →
      exec (.initMsgObjects n) s =
        .next { s with polls := s.polls + 1, status := 0x02, cmdBusy := false, loc := Locals.idle })

/-- R171, R202: with POLL_LIMIT = k a wait that always reads BUSY = 1 raises TIMEOUT on its k-th read, not before.
That the internal registers then return to their idle value is the model's choice (log 6), the positions its deduction
(log 9). -/
def Obligations.TimeoutOnTheLimitedRead : Prop :=
  ∀ (n : InstNum) (s : State) (k limit : Nat), s.params.Wf → (s.inst n).powered = true →
    (s.inst n).pending ≠ none → k = 0 ∨ k = 5 ∨ k = 7 ∨ k = 9 → s.RunsAt k → s.polls = 0 →
    s.params.pollLimit = some limit →
    (∀ j, j < limit → execRun (.initMsgObjects n) j s = .next { s with polls := j }) ∧
    execRun (.initMsgObjects n) limit s =
      .next { s with polls := limit, status := 0x02, cmdBusy := false, loc := Locals.idle }

/-- R182: with POLL_LIMIT = ∞ and a handler that never moves, the wait polls forever: after any number of
micro-operations the command still runs at the same read. That the waits P1a, P1w, P2a and P2w are the positions 0, 5, 7
and 9 is the model's deduction (log 9). -/
def Obligations.StuckHandlerHangsTheCommand : Prop :=
  ∀ (n : InstNum) (s : State) (k j : Nat), s.params.Wf → (s.inst n).powered = true →
    (s.inst n).pending ≠ none → k = 0 ∨ k = 5 ∨ k = 7 ∨ k = 9 → s.RunsAt k → s.params.pollLimit = none →
    execRun (.initMsgObjects n) j s = .next { s with polls := s.polls + j }

/-- R173: the message handler's completion. 0xB0 copies the IF1 registers into the object's arbitration and control
fields; 0x0C clears NEWDAT (bit 15) and INTPND (bit 13) alone; any other mask is UNMODELLED_TRANSFER. Mask, data,
registers and the other objects stay, and BUSY falls. The model's own: a handler's move with nothing pending leaves the
state (log 19), and a faulting completion leaves the transfer pending (log 10). -/
def Obligations.HandlerCompletesTheTransfer : Prop :=
  ∀ (n : InstNum) (s : State), s.faults = [] →
    ((s.inst n).pending = none → handlerMove n s = .next s) ∧
    ∀ k, (s.inst n).pending = some k →
      let o := (s.inst n).object k
      ((s.inst n).read .if1cmsk = 0xB0 ∨ (s.inst n).read .if1cmsk = 0x0C → ∃ t, handlerMove n s = .next t ∧
        (t.inst n).pending = none ∧ (t.inst n).regs = (s.inst n).regs ∧ (t.inst n).phase = (s.inst n).phase ∧
        (t.inst n).powered = (s.inst n).powered ∧
        (∀ j, j ≠ k → (t.inst n).object j = (s.inst n).object j) ∧
        ((t.inst n).object k).mask = o.mask ∧ ((t.inst n).object k).data = o.data ∧
        ((s.inst n).read .if1cmsk = 0xB0 →
          ((t.inst n).object k).arb1.toNat = ((s.inst n).read .if1arb1).toNat % 2 ^ 16 ∧
          ((t.inst n).object k).arb2.toNat = ((s.inst n).read .if1arb2).toNat % 2 ^ 16 ∧
          ((t.inst n).object k).mctl.toNat = ((s.inst n).read .if1mctl).toNat % 2 ^ 16) ∧
        ((s.inst n).read .if1cmsk = 0x0C →
          ((t.inst n).object k).arb1 = o.arb1 ∧ ((t.inst n).object k).arb2 = o.arb2 ∧
          ∀ b, b < 16 → ((t.inst n).object k).mctl.getLsbD b =
            (o.mctl.getLsbD b && b != 15 && b != 13)) ∧
        SameOthers n s t ∧ SamePort s t ∧ SameResults s t ∧ SameLoops s t ∧ t.seqStep = s.seqStep ∧
        t.cmdBusy = s.cmdBusy ∧ t.status = s.status) ∧
      ((s.inst n).read .if1cmsk ≠ 0xB0 → (s.inst n).read .if1cmsk ≠ 0x0C →
        handlerMove n s = .next { s with faults := [.unmodelledTransfer] })

/-- R180, R170, R176: INIT_MSG_OBJECTS under every interleaving with the message handlers. From a state of the
invariant in which the command is about to make its first read, whatever moves of the sequencer and the handlers
`env` lists, if they leave the command ended OK and the instance quiescent, then all 32 objects are empty with their
mask and data fields as before, IF1CMSK = 0x0C, the IF1 arbitration and control registers are 0, IF1CRQ reads 0x20,
and CTL, BIT, BRPE and `phase` are unchanged. -/
def Obligations.InitEmptiesAllObjectsUnderEveryInterleaving : Prop :=
  ∀ (n : InstNum) (s t : State), s.Inv → s.RunsAt 0 →
    decode s.params.nInst s.cmd = .ok (.initMsgObjects n) →
    (∀ e ∈ s.env, e = .sequencer ∨ ∃ m, e = .handler m) →
    Sys2Proof.core.run s.env.length s = .next t → t.Ended 0x00 → t.Quiescent n →
    (∀ k, ((t.inst n).object k).Empty ∧ ((t.inst n).object k).mask = ((s.inst n).object k).mask ∧
      ((t.inst n).object k).data = ((s.inst n).object k).data) ∧
    (t.inst n).read .if1cmsk = 0x0C ∧ (t.inst n).read .if1arb1 = 0 ∧ (t.inst n).read .if1arb2 = 0 ∧
    (t.inst n).read .if1mctl = 0 ∧ (t.inst n).read .if1crq = 0x20 ∧
    (t.inst n).read .ctl = (s.inst n).read .ctl ∧ (t.inst n).read .bit = (s.inst n).read .bit ∧
    (t.inst n).read .brpe = (s.inst n).read .brpe ∧ (t.inst n).phase = (s.inst n).phase

/-- R170, R178: with a handler that completes every transfer before the sequencer's next access (vector M1 of
spec/95_test_vectors.md), INIT_MSG_OBJECTS ends OK after its 135 micro-operations, whatever POLL_LIMIT is, and one
more handler move makes the instance quiescent. -/
def Obligations.InitCompletesWithAnImmediateHandler : Prop :=
  ∀ (n : InstNum) (s : State), s.Inv → s.RunsAt 0 → decode s.params.nInst s.cmd = .ok (.initMsgObjects n) →
    s.env = (List.replicate 135 [Turn.handler n, Turn.sequencer]).flatten ++ [Turn.handler n] →
    ∃ t, Sys2Proof.core.run 271 s = .next t ∧ t.Ended 0x00 ∧ t.Quiescent n ∧ t.env = [] ∧ SameOthers n s t ∧
      SameResults s t ∧ t.refused = s.refused ∧ t.faults = []

/-! ### Register access -/

/-- spec/10_state.md R21, R29 and spec/20_memory.md R62: after a write to a register other than IF1CRQ that is write
enabled, a read at its address returns the implemented bits written; reads everywhere else are as before. -/
def Obligations.ReadReturnsTheLastWrite : Prop :=
  ∀ (n : InstNum) (r : Reg) (v : Word) (s : State), s.params.Wf → (s.inst n).powered = true → r ≠ .if1crq →
    ((r = .bit ∨ r = .brpe) → s.params.writeProtect = true →
      ((s.inst n).read .ctl).getLsbD 0 = true ∧ ((s.inst n).read .ctl).getLsbD 6 = true) →
    memRead n (s.regAddr n r) 4 (memWrite n (s.regAddr n r) 4 v s) = .ok (v &&& r.impl) ∧
    SameMemoryBut n [r] s (memWrite n (s.regAddr n r) 4 v s)

/-- R29: under TIMING_WRITE_PROTECT a write to BIT or BRPE without INIT and CCE both set is ignored, with no fault; in
every other case it takes effect. -/
def Obligations.TimingWritesNeedInitAndCce : Prop :=
  ∀ (n : InstNum) (r : Reg) (v : Word) (s : State), s.params.Wf → (s.inst n).powered = true →
    r = .bit ∨ r = .brpe →
    (s.params.writeProtect = true →
      ¬ (((s.inst n).read .ctl).getLsbD 0 = true ∧ ((s.inst n).read .ctl).getLsbD 6 = true) →
      memWrite n (s.regAddr n r) 4 v s = s) ∧
    (s.params.writeProtect = false ∨
        (((s.inst n).read .ctl).getLsbD 0 = true ∧ ((s.inst n).read .ctl).getLsbD 6 = true) →
      ((memWrite n (s.regAddr n r) 4 v s).inst n).read r = v &&& r.impl ∧
      (memWrite n (s.regAddr n r) 4 v s).faults = s.faults)

/-- spec/42_message_objects.md R172: a write of v to IF1CRQ sets MNUM = v[5:0]; with a transfer pending it is IF_RACE;
with MNUM in 1..32 that object's transfer becomes pending; otherwise BAD_MNUM and no transfer starts. -/
def Obligations.RequestWriteStartsATransfer : Prop :=
  ∀ (n : InstNum) (v : Word) (s : State), s.params.Wf → (s.inst n).powered = true → s.faults = [] →
    let t := memWrite n (s.regAddr n .if1crq) 4 v s
    ((t.inst n).read .if1crq).toNat % 64 = v.toNat % 64 ∧
    ((s.inst n).pending ≠ none → t.faults = [.ifRace] ∧ (t.inst n).pending = (s.inst n).pending) ∧
    ((s.inst n).pending = none → 1 ≤ v.toNat % 64 → v.toNat % 64 ≤ 32 →
      t.faults = [] ∧ ((t.inst n).pending).map (fun k => k.val + 1) = some (v.toNat % 64)) ∧
    ((s.inst n).pending = none → ¬ (1 ≤ v.toNat % 64 ∧ v.toNat % 64 ≤ 32) →
      t.faults = [.badMnum] ∧ (t.inst n).pending = none)

/-- R174: a write to IF1CMSK, IF1ARB1, IF1ARB2 or IF1MCTL while a transfer is pending records IF_RACE, and the register
still takes the value. -/
def Obligations.InterfaceWriteDuringTransferIsARace : Prop :=
  ∀ (n : InstNum) (r : Reg) (v : Word) (s : State), s.params.Wf → (s.inst n).powered = true → s.faults = [] →
    (s.inst n).pending ≠ none → r = .if1cmsk ∨ r = .if1arb1 ∨ r = .if1arb2 ∨ r = .if1mctl →
    (memWrite n (s.regAddr n r) 4 v s).faults = [.ifRace] ∧
    ((memWrite n (s.regAddr n r) 4 v s).inst n).read r = v &&& r.impl ∧
    ((memWrite n (s.regAddr n r) 4 v s).inst n).pending = (s.inst n).pending

/-- spec/20_memory.md R62, spec/60_exceptions.md R205: an unpowered access is NO_CLOCK; of a powered instance an access
of width ≠ 4, misaligned, or at an address of none of the eight registers is BAD_ACCESS. A faulting write changes
nothing but the mark. That NO_CLOCK comes first is the model's choice (log 11). -/
def Obligations.UndefinedAccessFaults : Prop :=
  ∀ (n : InstNum) (a : Word) (w : Nat) (v : Word) (s : State), s.params.Wf → s.faults = [] →
    ((s.inst n).powered = false → memRead n a w s = .error .noClock ∧
      memWrite n a w v s = { s with faults := [.noClock] }) ∧
    ((s.inst n).powered = true → (w ≠ 4 ∨ a.toNat % 4 ≠ 0 ∨ ∀ r : Reg, a ≠ s.regAddr n r) →
      memRead n a w s = .error .badAccess ∧ memWrite n a w v s = { s with faults := [.badAccess] })

/-- R205, R206: a recorded fault stops the sequencer, whether a command runs or not: its every move, and a presentation
to the idle port, answers the fault, and the one move that still gives a next state is the host's discarded
presentation, so no STATUS is written. That a recorded fault stops the message handlers too, and that the stop is a
fault outcome of the later move, is the model's deduction (log 10). -/
def Obligations.RecordedFaultStopsTheSequencer : Prop :=
  ∀ (i : Instr) (n : InstNum) (h : HostCmd) (s : State) (f : Fault) (fs : List Fault), s.faults = f :: fs →
    exec i s = .fault f ∧ sequencerMove s = .fault f ∧ handlerMove n s = .fault f ∧
    (s.cmdBusy = false → hostMove h s = .fault f) ∧
    ∀ t, step s = .next t → ∃ g rest, s.env = .host g :: rest ∧ s.cmdBusy = true ∧
      t = { s with env := rest, refused := true }

/-- spec/10_state.md R36, R21: BUSY reads 1 exactly when a transfer is pending, and every read lies within the
implemented bits. -/
def Obligations.BusyReadsThePendingTransfer : Prop :=
  ∀ (x : CanInst) (r : Reg), ((x.read .if1crq).getLsbD 15 = true ↔ x.pending ≠ none) ∧
    x.read r &&& r.impl = x.read r

/-! ### Reset -/

/-- R51: block reset, the values the spec gives. -/
def Obligations.BlockResetState : Prop :=
  (∀ n, (State.reset.inst n).phase = .reset ∧ (State.reset.inst n).powered = false ∧
    (State.reset.inst n).pending = none) ∧
  State.reset.cmdBusy = false ∧ State.reset.status = 0x00 ∧ State.reset.refused = false ∧ State.reset.faults = []

/-- spec/70_reset_and_hazards.md R230: after reset the sequencer waits for the host's first command: with no move
listed a step leaves the reset state. That the sequencer moves when `env` lists no move, and that its idle move
leaves the state, are the model's choices (log 2, log 15, log 19). -/
def Obligations.ResetWaitsForTheHost : Prop := step State.reset = .next State.reset

/-- spec/10_state.md R43, R37, R21 as the invariant `State.Inv`: it holds at reset. -/
def Obligations.InvariantHoldsAtReset : Prop := State.reset.Inv

/-! ### The whole machine -/

/-- R43, R37, R21, R31, R27: every step keeps the invariant: phases and CTL bits agree, registers hold implemented
bits only, a pending transfer is of a powered instance and has one of the two masks, live instances have legal
segments in BIT, and a running command is at a position of its list. -/
def Obligations.EveryStepKeepsTheInvariant : Prop :=
  ∀ s t : State, s.Inv → step s = .next t → t.Inv

/-- spec/60_exceptions.md R205, third column: CANBT's own sequences reach no fault. From every state of the invariant
a step answers a next state, with no fault recorded. -/
def Obligations.NoFaultIsReachable : Prop :=
  ∀ s : State, s.Inv → ∃ t, step s = .next t ∧ t.faults = []

/-- spec/10_state.md R47, R8: the marks only grow, and no step writes a parameter. -/
def Obligations.MarksGrowAndParametersStay : Prop :=
  ∀ s t : State, step s = .next t →
    (s.refused = true → t.refused = true) ∧ (∀ f ∈ s.faults, f ∈ t.faults) ∧ t.params = s.params

/-- spec/60_exceptions.md R213: a command for instance i changes no other instance, and a handler's move only its
own. -/
def Obligations.InstancesAreIndependent : Prop :=
  ∀ (s t : State),
    (∀ i, exec i s = .next t → SameOthers i.inst s t) ∧ (∀ n, handlerMove n s = .next t → SameOthers n s t)

/-- spec/70_reset_and_hazards.md R237, spec/20_memory.md R69: only the sequencer writes CTL, BIT and BRPE: a step that
is the host's or a handler's move leaves every instance's stored registers, `phase` and `powered`. -/
def Obligations.OnlyTheSequencerWritesRegisters : Prop :=
  ∀ (s t : State) (rest : List Turn),
    (∃ h, s.env = .host h :: rest) ∨ (∃ m, s.env = .handler m :: rest) → step s = .next t →
    ∀ n, (t.inst n).regs = (s.inst n).regs ∧ (t.inst n).phase = (s.inst n).phase ∧
      (t.inst n).powered = (s.inst n).powered

/-- spec/60_exceptions.md R200, R42: a step leaves STATUS or writes one of the five codes; a running command ends only
in the step that writes OK, ERR_BITRATE_NOT_FOUND or ERR_TIMEOUT. -/
def Obligations.StatusTakesOnlyTheFiveCodes : Prop :=
  ∀ s t : State, step s = .next t →
    (t.status = s.status ∨ t.status = 0x00 ∨ t.status = 0x01 ∨ t.status = 0x02 ∨ t.status = 0x80 ∨
      t.status = 0x81) ∧
    (s.cmdBusy = true → t.cmdBusy = false → t.status = 0x00 ∨ t.status = 0x01 ∨ t.status = 0x02)

/-- spec/10_state.md R41, spec/60_exceptions.md R207: a command's presentation and steps change a result register only in
the step that ends it with STATUS = OK; so a command that ends in an error has written none. -/
def Obligations.ErroredCommandWritesNoResult : Prop :=
  ∀ (i : Instr) (s t : State), exec i s = .next t → ¬ SameResults s t →
    s.cmdBusy = true ∧ t.cmdBusy = false ∧ t.status = 0x00

/-- R202: ERR_TIMEOUT is raised only by INIT_MSG_OBJECTS, only with a finite POLL_LIMIT; R201:
ERR_BITRATE_NOT_FOUND only by SOLVE, SET_BIT_RATE and CHANGE_BAUD_RATE. -/
def Obligations.ErrorsComeOnlyFromTheirCommands : Prop :=
  ∀ (i : Instr) (s t : State), s.cmdBusy = true → exec i s = .next t → t.cmdBusy = false →
    (t.status = 0x02 → (∃ n, i = .initMsgObjects n) ∧ s.params.pollLimit ≠ none) ∧
    (t.status = 0x01 → (∃ n, i = .solve n) ∨ (∃ n, i = .setBitRate n) ∨ ∃ n, i = .changeBaudRate n)

/-- spec/40_solver.md R100, R101, spec/92_eei_decisions.md: the default parameters meet the constraints, and the
default table has 1 + seg1 + seg2 = q. -/
def Obligations.DefaultParametersAreAdmitted : Prop :=
  Config.defaultParams.Wf ∧ ∀ k : QuantaIdx, 1 + defaultTable[k].seg1 + defaultTable[k].seg2 = quanta k
end

