-- ==== Sys2Proof/Laws/State.lean ====
section
/-! SUPPORT. What each named update of State does to each field: one lemma per field per update, so that no proof
unfolds a record update; and reading back an instance. -/

namespace Sys2Proof.Machine

open Sys2Proof.Config

/-! ### Instances -/

@[simp] theorem inst_setInst_self (s : State) (n : InstNum) (x : CanInst) : (s.setInst n x).inst n = x := by
  simp [State.setInst, State.inst]

theorem inst_setInst_ne (s : State) {n m : InstNum} (x : CanInst) (h : m ≠ n) :
    (s.setInst n x).inst m = s.inst m := by
  have : n.toNat ≠ m.toNat := fun e => h (BitVec.eq_of_toNat_eq e.symm)
  simp [State.setInst, State.inst, Vector.getElem_set_ne, this]

theorem inst_setInst (s : State) (n m : InstNum) (x : CanInst) :
    (s.setInst n x).inst m = if m = n then x else s.inst m := by
  split
  · next h => subst h; simp
  · next h => exact inst_setInst_ne s x h

@[simp] theorem setInst_setInst (s : State) (n : InstNum) (x y : CanInst) :
    (s.setInst n x).setInst n y = s.setInst n y := by
  simp [State.setInst]

@[simp] theorem setInst_inst (s : State) (n : InstNum) : s.setInst n (s.inst n) = s := by
  simp [State.setInst, State.inst]

/-! ### Updates of one instance -/

@[simp] theorem CanInst.setPhase_powered (x : CanInst) (p : Phase) : (x.setPhase p).powered = x.powered := rfl
@[simp] theorem CanInst.setPhase_phase (x : CanInst) (p : Phase) : (x.setPhase p).phase = p := rfl
@[simp] theorem CanInst.setPhase_regs (x : CanInst) (p : Phase) : (x.setPhase p).regs = x.regs := rfl
@[simp] theorem CanInst.setPhase_pending (x : CanInst) (p : Phase) : (x.setPhase p).pending = x.pending := rfl
@[simp] theorem CanInst.setPhase_objects (x : CanInst) (p : Phase) : (x.setPhase p).objects = x.objects := rfl
@[simp] theorem CanInst.setPhase_object (x : CanInst) (p : Phase) (k : ObjIdx) : (x.setPhase p).object k = x.object k := rfl

@[simp] theorem CanInst.setPowered_powered (x : CanInst) (b : Bool) : (x.setPowered b).powered = b := rfl
@[simp] theorem CanInst.setPowered_phase (x : CanInst) (b : Bool) : (x.setPowered b).phase = x.phase := rfl
@[simp] theorem CanInst.setPowered_regs (x : CanInst) (b : Bool) : (x.setPowered b).regs = x.regs := rfl
@[simp] theorem CanInst.setPowered_pending (x : CanInst) (b : Bool) : (x.setPowered b).pending = x.pending := rfl
@[simp] theorem CanInst.setPowered_objects (x : CanInst) (b : Bool) : (x.setPowered b).objects = x.objects := rfl
@[simp] theorem CanInst.setPowered_object (x : CanInst) (b : Bool) (k : ObjIdx) : (x.setPowered b).object k = x.object k := rfl

@[simp] theorem CanInst.setPending_powered (x : CanInst) (p : Option ObjIdx) : (x.setPending p).powered = x.powered := rfl
@[simp] theorem CanInst.setPending_phase (x : CanInst) (p : Option ObjIdx) : (x.setPending p).phase = x.phase := rfl
@[simp] theorem CanInst.setPending_regs (x : CanInst) (p : Option ObjIdx) : (x.setPending p).regs = x.regs := rfl
@[simp] theorem CanInst.setPending_pending (x : CanInst) (p : Option ObjIdx) : (x.setPending p).pending = p := rfl
@[simp] theorem CanInst.setPending_objects (x : CanInst) (p : Option ObjIdx) : (x.setPending p).objects = x.objects := rfl
@[simp] theorem CanInst.setPending_object (x : CanInst) (p : Option ObjIdx) (k : ObjIdx) : (x.setPending p).object k = x.object k := rfl

@[simp] theorem CanInst.setObject_powered (x : CanInst) (k : ObjIdx) (o : MsgObject) : (x.setObject k o).powered = x.powered := rfl
@[simp] theorem CanInst.setObject_phase (x : CanInst) (k : ObjIdx) (o : MsgObject) : (x.setObject k o).phase = x.phase := rfl
@[simp] theorem CanInst.setObject_regs (x : CanInst) (k : ObjIdx) (o : MsgObject) : (x.setObject k o).regs = x.regs := rfl
@[simp] theorem CanInst.setObject_pending (x : CanInst) (k : ObjIdx) (o : MsgObject) : (x.setObject k o).pending = x.pending := rfl

/-! ### setInst -/

@[simp] theorem setInst_params (s : State) (n : InstNum) (x : CanInst) : (s.setInst n x).params = s.params := rfl
@[simp] theorem setInst_cmd (s : State) (n : InstNum) (x : CanInst) : (s.setInst n x).cmd = s.cmd := rfl
@[simp] theorem setInst_arg0 (s : State) (n : InstNum) (x : CanInst) : (s.setInst n x).arg0 = s.arg0 := rfl
@[simp] theorem setInst_arg1 (s : State) (n : InstNum) (x : CanInst) : (s.setInst n x).arg1 = s.arg1 := rfl
@[simp] theorem setInst_status (s : State) (n : InstNum) (x : CanInst) : (s.setInst n x).status = s.status := rfl
@[simp] theorem setInst_resRate (s : State) (n : InstNum) (x : CanInst) : (s.setInst n x).resRate = s.resRate := rfl
@[simp] theorem setInst_resSeg1 (s : State) (n : InstNum) (x : CanInst) : (s.setInst n x).resSeg1 = s.resSeg1 := rfl
@[simp] theorem setInst_resSeg2 (s : State) (n : InstNum) (x : CanInst) : (s.setInst n x).resSeg2 = s.resSeg2 := rfl
@[simp] theorem setInst_resSjw (s : State) (n : InstNum) (x : CanInst) : (s.setInst n x).resSjw = s.resSjw := rfl
@[simp] theorem setInst_resPd (s : State) (n : InstNum) (x : CanInst) : (s.setInst n x).resPd = s.resPd := rfl
@[simp] theorem setInst_cmdBusy (s : State) (n : InstNum) (x : CanInst) : (s.setInst n x).cmdBusy = s.cmdBusy := rfl
@[simp] theorem setInst_seqStep (s : State) (n : InstNum) (x : CanInst) : (s.setInst n x).seqStep = s.seqStep := rfl
@[simp] theorem setInst_pass (s : State) (n : InstNum) (x : CanInst) : (s.setInst n x).pass = s.pass := rfl
@[simp] theorem setInst_slot (s : State) (n : InstNum) (x : CanInst) : (s.setInst n x).slot = s.slot := rfl
@[simp] theorem setInst_polls (s : State) (n : InstNum) (x : CanInst) : (s.setInst n x).polls = s.polls := rfl
@[simp] theorem setInst_savedCtl (s : State) (n : InstNum) (x : CanInst) : (s.setInst n x).savedCtl = s.savedCtl := rfl
@[simp] theorem setInst_loc (s : State) (n : InstNum) (x : CanInst) : (s.setInst n x).loc = s.loc := rfl
@[simp] theorem setInst_refused (s : State) (n : InstNum) (x : CanInst) : (s.setInst n x).refused = s.refused := rfl
@[simp] theorem setInst_faults (s : State) (n : InstNum) (x : CanInst) : (s.setInst n x).faults = s.faults := rfl
@[simp] theorem setInst_env (s : State) (n : InstNum) (x : CanInst) : (s.setInst n x).env = s.env := rfl
@[simp] theorem setInst_freeCtr (s : State) (n : InstNum) (x : CanInst) : (s.setInst n x).freeCtr = s.freeCtr := rfl

/-! ### recordFault -/

@[simp] theorem recordFault_params (s : State) (f : Fault) : (s.recordFault f).params = s.params := rfl
@[simp] theorem recordFault_cmd (s : State) (f : Fault) : (s.recordFault f).cmd = s.cmd := rfl
@[simp] theorem recordFault_arg0 (s : State) (f : Fault) : (s.recordFault f).arg0 = s.arg0 := rfl
@[simp] theorem recordFault_arg1 (s : State) (f : Fault) : (s.recordFault f).arg1 = s.arg1 := rfl
@[simp] theorem recordFault_status (s : State) (f : Fault) : (s.recordFault f).status = s.status := rfl
@[simp] theorem recordFault_resRate (s : State) (f : Fault) : (s.recordFault f).resRate = s.resRate := rfl
@[simp] theorem recordFault_resSeg1 (s : State) (f : Fault) : (s.recordFault f).resSeg1 = s.resSeg1 := rfl
@[simp] theorem recordFault_resSeg2 (s : State) (f : Fault) : (s.recordFault f).resSeg2 = s.resSeg2 := rfl
@[simp] theorem recordFault_resSjw (s : State) (f : Fault) : (s.recordFault f).resSjw = s.resSjw := rfl
@[simp] theorem recordFault_resPd (s : State) (f : Fault) : (s.recordFault f).resPd = s.resPd := rfl
@[simp] theorem recordFault_cmdBusy (s : State) (f : Fault) : (s.recordFault f).cmdBusy = s.cmdBusy := rfl
@[simp] theorem recordFault_seqStep (s : State) (f : Fault) : (s.recordFault f).seqStep = s.seqStep := rfl
@[simp] theorem recordFault_pass (s : State) (f : Fault) : (s.recordFault f).pass = s.pass := rfl
@[simp] theorem recordFault_slot (s : State) (f : Fault) : (s.recordFault f).slot = s.slot := rfl
@[simp] theorem recordFault_polls (s : State) (f : Fault) : (s.recordFault f).polls = s.polls := rfl
@[simp] theorem recordFault_savedCtl (s : State) (f : Fault) : (s.recordFault f).savedCtl = s.savedCtl := rfl
@[simp] theorem recordFault_loc (s : State) (f : Fault) : (s.recordFault f).loc = s.loc := rfl
@[simp] theorem recordFault_refused (s : State) (f : Fault) : (s.recordFault f).refused = s.refused := rfl
@[simp] theorem recordFault_env (s : State) (f : Fault) : (s.recordFault f).env = s.env := rfl
@[simp] theorem recordFault_freeCtr (s : State) (f : Fault) : (s.recordFault f).freeCtr = s.freeCtr := rfl
@[simp] theorem recordFault_inst (s : State) (f : Fault) (m : InstNum) : (s.recordFault f).inst m = s.inst m := rfl

/-! ### advance -/

@[simp] theorem advance_params (s : State) : s.advance.params = s.params := rfl
@[simp] theorem advance_cmd (s : State) : s.advance.cmd = s.cmd := rfl
@[simp] theorem advance_arg0 (s : State) : s.advance.arg0 = s.arg0 := rfl
@[simp] theorem advance_arg1 (s : State) : s.advance.arg1 = s.arg1 := rfl
@[simp] theorem advance_status (s : State) : s.advance.status = s.status := rfl
@[simp] theorem advance_resRate (s : State) : s.advance.resRate = s.resRate := rfl
@[simp] theorem advance_resSeg1 (s : State) : s.advance.resSeg1 = s.resSeg1 := rfl
@[simp] theorem advance_resSeg2 (s : State) : s.advance.resSeg2 = s.resSeg2 := rfl
@[simp] theorem advance_resSjw (s : State) : s.advance.resSjw = s.resSjw := rfl
@[simp] theorem advance_resPd (s : State) : s.advance.resPd = s.resPd := rfl
@[simp] theorem advance_cmdBusy (s : State) : s.advance.cmdBusy = s.cmdBusy := rfl
@[simp] theorem advance_seqStep (s : State) : s.advance.seqStep = s.seqStep + 1 := rfl
@[simp] theorem advance_pass (s : State) : s.advance.pass = s.pass := rfl
@[simp] theorem advance_slot (s : State) : s.advance.slot = s.slot := rfl
@[simp] theorem advance_polls (s : State) : s.advance.polls = s.polls := rfl
@[simp] theorem advance_savedCtl (s : State) : s.advance.savedCtl = s.savedCtl := rfl
@[simp] theorem advance_loc (s : State) : s.advance.loc = s.loc := rfl
@[simp] theorem advance_refused (s : State) : s.advance.refused = s.refused := rfl
@[simp] theorem advance_faults (s : State) : s.advance.faults = s.faults := rfl
@[simp] theorem advance_env (s : State) : s.advance.env = s.env := rfl
@[simp] theorem advance_freeCtr (s : State) : s.advance.freeCtr = s.freeCtr := rfl
@[simp] theorem advance_inst (s : State) (m : InstNum) : s.advance.inst m = s.inst m := rfl

/-! ### enterWait -/

@[simp] theorem enterWait_params (s : State) (k : Nat) : (s.enterWait k).params = s.params := rfl
@[simp] theorem enterWait_cmd (s : State) (k : Nat) : (s.enterWait k).cmd = s.cmd := rfl
@[simp] theorem enterWait_arg0 (s : State) (k : Nat) : (s.enterWait k).arg0 = s.arg0 := rfl
@[simp] theorem enterWait_arg1 (s : State) (k : Nat) : (s.enterWait k).arg1 = s.arg1 := rfl
@[simp] theorem enterWait_status (s : State) (k : Nat) : (s.enterWait k).status = s.status := rfl
@[simp] theorem enterWait_resRate (s : State) (k : Nat) : (s.enterWait k).resRate = s.resRate := rfl
@[simp] theorem enterWait_resSeg1 (s : State) (k : Nat) : (s.enterWait k).resSeg1 = s.resSeg1 := rfl
@[simp] theorem enterWait_resSeg2 (s : State) (k : Nat) : (s.enterWait k).resSeg2 = s.resSeg2 := rfl
@[simp] theorem enterWait_resSjw (s : State) (k : Nat) : (s.enterWait k).resSjw = s.resSjw := rfl
@[simp] theorem enterWait_resPd (s : State) (k : Nat) : (s.enterWait k).resPd = s.resPd := rfl
@[simp] theorem enterWait_cmdBusy (s : State) (k : Nat) : (s.enterWait k).cmdBusy = s.cmdBusy := rfl
@[simp] theorem enterWait_seqStep (s : State) (k : Nat) : (s.enterWait k).seqStep = k := rfl
@[simp] theorem enterWait_pass (s : State) (k : Nat) : (s.enterWait k).pass = s.pass := rfl
@[simp] theorem enterWait_slot (s : State) (k : Nat) : (s.enterWait k).slot = s.slot := rfl
@[simp] theorem enterWait_polls (s : State) (k : Nat) : (s.enterWait k).polls = 0 := rfl
@[simp] theorem enterWait_savedCtl (s : State) (k : Nat) : (s.enterWait k).savedCtl = s.savedCtl := rfl
@[simp] theorem enterWait_loc (s : State) (k : Nat) : (s.enterWait k).loc = s.loc := rfl
@[simp] theorem enterWait_refused (s : State) (k : Nat) : (s.enterWait k).refused = s.refused := rfl
@[simp] theorem enterWait_faults (s : State) (k : Nat) : (s.enterWait k).faults = s.faults := rfl
@[simp] theorem enterWait_env (s : State) (k : Nat) : (s.enterWait k).env = s.env := rfl
@[simp] theorem enterWait_freeCtr (s : State) (k : Nat) : (s.enterWait k).freeCtr = s.freeCtr := rfl
@[simp] theorem enterWait_inst (s : State) (k : Nat) (m : InstNum) : (s.enterWait k).inst m = s.inst m := rfl

/-! ### startPass -/

@[simp] theorem startPass_params (s : State) (p : Pass) (k : Nat) : (s.startPass p k).params = s.params := rfl
@[simp] theorem startPass_cmd (s : State) (p : Pass) (k : Nat) : (s.startPass p k).cmd = s.cmd := rfl
@[simp] theorem startPass_arg0 (s : State) (p : Pass) (k : Nat) : (s.startPass p k).arg0 = s.arg0 := rfl
@[simp] theorem startPass_arg1 (s : State) (p : Pass) (k : Nat) : (s.startPass p k).arg1 = s.arg1 := rfl
@[simp] theorem startPass_status (s : State) (p : Pass) (k : Nat) : (s.startPass p k).status = s.status := rfl
@[simp] theorem startPass_resRate (s : State) (p : Pass) (k : Nat) : (s.startPass p k).resRate = s.resRate := rfl
@[simp] theorem startPass_resSeg1 (s : State) (p : Pass) (k : Nat) : (s.startPass p k).resSeg1 = s.resSeg1 := rfl
@[simp] theorem startPass_resSeg2 (s : State) (p : Pass) (k : Nat) : (s.startPass p k).resSeg2 = s.resSeg2 := rfl
@[simp] theorem startPass_resSjw (s : State) (p : Pass) (k : Nat) : (s.startPass p k).resSjw = s.resSjw := rfl
@[simp] theorem startPass_resPd (s : State) (p : Pass) (k : Nat) : (s.startPass p k).resPd = s.resPd := rfl
@[simp] theorem startPass_cmdBusy (s : State) (p : Pass) (k : Nat) : (s.startPass p k).cmdBusy = s.cmdBusy := rfl
@[simp] theorem startPass_seqStep (s : State) (p : Pass) (k : Nat) : (s.startPass p k).seqStep = k := rfl
@[simp] theorem startPass_pass (s : State) (p : Pass) (k : Nat) : (s.startPass p k).pass = p := rfl
@[simp] theorem startPass_slot (s : State) (p : Pass) (k : Nat) : (s.startPass p k).slot = 1 := rfl
@[simp] theorem startPass_polls (s : State) (p : Pass) (k : Nat) : (s.startPass p k).polls = 0 := rfl
@[simp] theorem startPass_savedCtl (s : State) (p : Pass) (k : Nat) : (s.startPass p k).savedCtl = s.savedCtl := rfl
@[simp] theorem startPass_loc (s : State) (p : Pass) (k : Nat) : (s.startPass p k).loc = s.loc := rfl
@[simp] theorem startPass_refused (s : State) (p : Pass) (k : Nat) : (s.startPass p k).refused = s.refused := rfl
@[simp] theorem startPass_faults (s : State) (p : Pass) (k : Nat) : (s.startPass p k).faults = s.faults := rfl
@[simp] theorem startPass_env (s : State) (p : Pass) (k : Nat) : (s.startPass p k).env = s.env := rfl
@[simp] theorem startPass_freeCtr (s : State) (p : Pass) (k : Nat) : (s.startPass p k).freeCtr = s.freeCtr := rfl
@[simp] theorem startPass_inst (s : State) (p : Pass) (k : Nat) (m : InstNum) : (s.startPass p k).inst m = s.inst m := rfl

/-! ### finish -/

@[simp] theorem finish_params (s : State) (c : StatusByte) : (s.finish c).params = s.params := rfl
@[simp] theorem finish_cmd (s : State) (c : StatusByte) : (s.finish c).cmd = s.cmd := rfl
@[simp] theorem finish_arg0 (s : State) (c : StatusByte) : (s.finish c).arg0 = s.arg0 := rfl
@[simp] theorem finish_arg1 (s : State) (c : StatusByte) : (s.finish c).arg1 = s.arg1 := rfl
@[simp] theorem finish_status (s : State) (c : StatusByte) : (s.finish c).status = c := rfl
@[simp] theorem finish_resRate (s : State) (c : StatusByte) : (s.finish c).resRate = s.resRate := rfl
@[simp] theorem finish_resSeg1 (s : State) (c : StatusByte) : (s.finish c).resSeg1 = s.resSeg1 := rfl
@[simp] theorem finish_resSeg2 (s : State) (c : StatusByte) : (s.finish c).resSeg2 = s.resSeg2 := rfl
@[simp] theorem finish_resSjw (s : State) (c : StatusByte) : (s.finish c).resSjw = s.resSjw := rfl
@[simp] theorem finish_resPd (s : State) (c : StatusByte) : (s.finish c).resPd = s.resPd := rfl
@[simp] theorem finish_cmdBusy (s : State) (c : StatusByte) : (s.finish c).cmdBusy = false := rfl
@[simp] theorem finish_seqStep (s : State) (c : StatusByte) : (s.finish c).seqStep = s.seqStep := rfl
@[simp] theorem finish_pass (s : State) (c : StatusByte) : (s.finish c).pass = s.pass := rfl
@[simp] theorem finish_slot (s : State) (c : StatusByte) : (s.finish c).slot = s.slot := rfl
@[simp] theorem finish_polls (s : State) (c : StatusByte) : (s.finish c).polls = s.polls := rfl
@[simp] theorem finish_savedCtl (s : State) (c : StatusByte) : (s.finish c).savedCtl = s.savedCtl := rfl
@[simp] theorem finish_loc (s : State) (c : StatusByte) : (s.finish c).loc = Locals.idle := rfl
@[simp] theorem finish_refused (s : State) (c : StatusByte) : (s.finish c).refused = s.refused := rfl
@[simp] theorem finish_faults (s : State) (c : StatusByte) : (s.finish c).faults = s.faults := rfl
@[simp] theorem finish_env (s : State) (c : StatusByte) : (s.finish c).env = s.env := rfl
@[simp] theorem finish_freeCtr (s : State) (c : StatusByte) : (s.finish c).freeCtr = s.freeCtr := rfl
@[simp] theorem finish_inst (s : State) (c : StatusByte) (m : InstNum) : (s.finish c).inst m = s.inst m := rfl

/-! ### setPhase -/

@[simp] theorem setPhase_params (s : State) (n : InstNum) (p : Phase) : (s.setPhase n p).params = s.params := rfl
@[simp] theorem setPhase_cmd (s : State) (n : InstNum) (p : Phase) : (s.setPhase n p).cmd = s.cmd := rfl
@[simp] theorem setPhase_arg0 (s : State) (n : InstNum) (p : Phase) : (s.setPhase n p).arg0 = s.arg0 := rfl
@[simp] theorem setPhase_arg1 (s : State) (n : InstNum) (p : Phase) : (s.setPhase n p).arg1 = s.arg1 := rfl
@[simp] theorem setPhase_status (s : State) (n : InstNum) (p : Phase) : (s.setPhase n p).status = s.status := rfl
@[simp] theorem setPhase_resRate (s : State) (n : InstNum) (p : Phase) : (s.setPhase n p).resRate = s.resRate := rfl
@[simp] theorem setPhase_resSeg1 (s : State) (n : InstNum) (p : Phase) : (s.setPhase n p).resSeg1 = s.resSeg1 := rfl
@[simp] theorem setPhase_resSeg2 (s : State) (n : InstNum) (p : Phase) : (s.setPhase n p).resSeg2 = s.resSeg2 := rfl
@[simp] theorem setPhase_resSjw (s : State) (n : InstNum) (p : Phase) : (s.setPhase n p).resSjw = s.resSjw := rfl
@[simp] theorem setPhase_resPd (s : State) (n : InstNum) (p : Phase) : (s.setPhase n p).resPd = s.resPd := rfl
@[simp] theorem setPhase_cmdBusy (s : State) (n : InstNum) (p : Phase) : (s.setPhase n p).cmdBusy = s.cmdBusy := rfl
@[simp] theorem setPhase_seqStep (s : State) (n : InstNum) (p : Phase) : (s.setPhase n p).seqStep = s.seqStep := rfl
@[simp] theorem setPhase_pass (s : State) (n : InstNum) (p : Phase) : (s.setPhase n p).pass = s.pass := rfl
@[simp] theorem setPhase_slot (s : State) (n : InstNum) (p : Phase) : (s.setPhase n p).slot = s.slot := rfl
@[simp] theorem setPhase_polls (s : State) (n : InstNum) (p : Phase) : (s.setPhase n p).polls = s.polls := rfl
@[simp] theorem setPhase_savedCtl (s : State) (n : InstNum) (p : Phase) : (s.setPhase n p).savedCtl = s.savedCtl := rfl
@[simp] theorem setPhase_loc (s : State) (n : InstNum) (p : Phase) : (s.setPhase n p).loc = s.loc := rfl
@[simp] theorem setPhase_refused (s : State) (n : InstNum) (p : Phase) : (s.setPhase n p).refused = s.refused := rfl
@[simp] theorem setPhase_faults (s : State) (n : InstNum) (p : Phase) : (s.setPhase n p).faults = s.faults := rfl
@[simp] theorem setPhase_env (s : State) (n : InstNum) (p : Phase) : (s.setPhase n p).env = s.env := rfl
@[simp] theorem setPhase_freeCtr (s : State) (n : InstNum) (p : Phase) : (s.setPhase n p).freeCtr = s.freeCtr := rfl

/-! ### accept -/

@[simp] theorem accept_params (s : State) : s.accept.params = s.params := rfl
@[simp] theorem accept_cmd (s : State) : s.accept.cmd = s.cmd := rfl
@[simp] theorem accept_arg0 (s : State) : s.accept.arg0 = s.arg0 := rfl
@[simp] theorem accept_arg1 (s : State) : s.accept.arg1 = s.arg1 := rfl
@[simp] theorem accept_status (s : State) : s.accept.status = s.status := rfl
@[simp] theorem accept_resRate (s : State) : s.accept.resRate = s.resRate := rfl
@[simp] theorem accept_resSeg1 (s : State) : s.accept.resSeg1 = s.resSeg1 := rfl
@[simp] theorem accept_resSeg2 (s : State) : s.accept.resSeg2 = s.resSeg2 := rfl
@[simp] theorem accept_resSjw (s : State) : s.accept.resSjw = s.resSjw := rfl
@[simp] theorem accept_resPd (s : State) : s.accept.resPd = s.resPd := rfl
@[simp] theorem accept_cmdBusy (s : State) : s.accept.cmdBusy = true := rfl
@[simp] theorem accept_seqStep (s : State) : s.accept.seqStep = 0 := rfl
@[simp] theorem accept_pass (s : State) : s.accept.pass = s.pass := rfl
@[simp] theorem accept_slot (s : State) : s.accept.slot = s.slot := rfl
@[simp] theorem accept_polls (s : State) : s.accept.polls = s.polls := rfl
@[simp] theorem accept_savedCtl (s : State) : s.accept.savedCtl = s.savedCtl := rfl
@[simp] theorem accept_loc (s : State) : s.accept.loc = s.loc := rfl
@[simp] theorem accept_refused (s : State) : s.accept.refused = s.refused := rfl
@[simp] theorem accept_faults (s : State) : s.accept.faults = s.faults := rfl
@[simp] theorem accept_env (s : State) : s.accept.env = s.env := rfl
@[simp] theorem accept_freeCtr (s : State) : s.accept.freeCtr = s.freeCtr := rfl
@[simp] theorem accept_inst (s : State) (m : InstNum) : s.accept.inst m = s.inst m := rfl

/-! ### acceptWaiting -/

@[simp] theorem acceptWaiting_params (s : State) : s.acceptWaiting.params = s.params := rfl
@[simp] theorem acceptWaiting_cmd (s : State) : s.acceptWaiting.cmd = s.cmd := rfl
@[simp] theorem acceptWaiting_arg0 (s : State) : s.acceptWaiting.arg0 = s.arg0 := rfl
@[simp] theorem acceptWaiting_arg1 (s : State) : s.acceptWaiting.arg1 = s.arg1 := rfl
@[simp] theorem acceptWaiting_status (s : State) : s.acceptWaiting.status = s.status := rfl
@[simp] theorem acceptWaiting_resRate (s : State) : s.acceptWaiting.resRate = s.resRate := rfl
@[simp] theorem acceptWaiting_resSeg1 (s : State) : s.acceptWaiting.resSeg1 = s.resSeg1 := rfl
@[simp] theorem acceptWaiting_resSeg2 (s : State) : s.acceptWaiting.resSeg2 = s.resSeg2 := rfl
@[simp] theorem acceptWaiting_resSjw (s : State) : s.acceptWaiting.resSjw = s.resSjw := rfl
@[simp] theorem acceptWaiting_resPd (s : State) : s.acceptWaiting.resPd = s.resPd := rfl
@[simp] theorem acceptWaiting_cmdBusy (s : State) : s.acceptWaiting.cmdBusy = true := rfl
@[simp] theorem acceptWaiting_seqStep (s : State) : s.acceptWaiting.seqStep = 0 := rfl
@[simp] theorem acceptWaiting_pass (s : State) : s.acceptWaiting.pass = s.pass := rfl
@[simp] theorem acceptWaiting_slot (s : State) : s.acceptWaiting.slot = s.slot := rfl
@[simp] theorem acceptWaiting_polls (s : State) : s.acceptWaiting.polls = 0 := rfl
@[simp] theorem acceptWaiting_savedCtl (s : State) : s.acceptWaiting.savedCtl = s.savedCtl := rfl
@[simp] theorem acceptWaiting_loc (s : State) : s.acceptWaiting.loc = s.loc := rfl
@[simp] theorem acceptWaiting_refused (s : State) : s.acceptWaiting.refused = s.refused := rfl
@[simp] theorem acceptWaiting_faults (s : State) : s.acceptWaiting.faults = s.faults := rfl
@[simp] theorem acceptWaiting_env (s : State) : s.acceptWaiting.env = s.env := rfl
@[simp] theorem acceptWaiting_freeCtr (s : State) : s.acceptWaiting.freeCtr = s.freeCtr := rfl
@[simp] theorem acceptWaiting_inst (s : State) (m : InstNum) : s.acceptWaiting.inst m = s.inst m := rfl

/-! ### refuseState -/

@[simp] theorem refuseState_params (s : State) : s.refuseState.params = s.params := rfl
@[simp] theorem refuseState_cmd (s : State) : s.refuseState.cmd = s.cmd := rfl
@[simp] theorem refuseState_arg0 (s : State) : s.refuseState.arg0 = s.arg0 := rfl
@[simp] theorem refuseState_arg1 (s : State) : s.refuseState.arg1 = s.arg1 := rfl
@[simp] theorem refuseState_status (s : State) : s.refuseState.status = statusRefusedState := rfl
@[simp] theorem refuseState_resRate (s : State) : s.refuseState.resRate = s.resRate := rfl
@[simp] theorem refuseState_resSeg1 (s : State) : s.refuseState.resSeg1 = s.resSeg1 := rfl
@[simp] theorem refuseState_resSeg2 (s : State) : s.refuseState.resSeg2 = s.resSeg2 := rfl
@[simp] theorem refuseState_resSjw (s : State) : s.refuseState.resSjw = s.resSjw := rfl
@[simp] theorem refuseState_resPd (s : State) : s.refuseState.resPd = s.resPd := rfl
@[simp] theorem refuseState_cmdBusy (s : State) : s.refuseState.cmdBusy = s.cmdBusy := rfl
@[simp] theorem refuseState_seqStep (s : State) : s.refuseState.seqStep = s.seqStep := rfl
@[simp] theorem refuseState_pass (s : State) : s.refuseState.pass = s.pass := rfl
@[simp] theorem refuseState_slot (s : State) : s.refuseState.slot = s.slot := rfl
@[simp] theorem refuseState_polls (s : State) : s.refuseState.polls = s.polls := rfl
@[simp] theorem refuseState_savedCtl (s : State) : s.refuseState.savedCtl = s.savedCtl := rfl
@[simp] theorem refuseState_loc (s : State) : s.refuseState.loc = s.loc := rfl
@[simp] theorem refuseState_refused (s : State) : s.refuseState.refused = true := rfl
@[simp] theorem refuseState_faults (s : State) : s.refuseState.faults = s.faults := rfl
@[simp] theorem refuseState_env (s : State) : s.refuseState.env = s.env := rfl
@[simp] theorem refuseState_freeCtr (s : State) : s.refuseState.freeCtr = s.freeCtr := rfl
@[simp] theorem refuseState_inst (s : State) (m : InstNum) : s.refuseState.inst m = s.inst m := rfl

/-! ### refuseIllegal -/

@[simp] theorem refuseIllegal_params (s : State) : s.refuseIllegal.params = s.params := rfl
@[simp] theorem refuseIllegal_cmd (s : State) : s.refuseIllegal.cmd = s.cmd := rfl
@[simp] theorem refuseIllegal_arg0 (s : State) : s.refuseIllegal.arg0 = s.arg0 := rfl
@[simp] theorem refuseIllegal_arg1 (s : State) : s.refuseIllegal.arg1 = s.arg1 := rfl
@[simp] theorem refuseIllegal_status (s : State) : s.refuseIllegal.status = statusRefusedIllegal := rfl
@[simp] theorem refuseIllegal_resRate (s : State) : s.refuseIllegal.resRate = s.resRate := rfl
@[simp] theorem refuseIllegal_resSeg1 (s : State) : s.refuseIllegal.resSeg1 = s.resSeg1 := rfl
@[simp] theorem refuseIllegal_resSeg2 (s : State) : s.refuseIllegal.resSeg2 = s.resSeg2 := rfl
@[simp] theorem refuseIllegal_resSjw (s : State) : s.refuseIllegal.resSjw = s.resSjw := rfl
@[simp] theorem refuseIllegal_resPd (s : State) : s.refuseIllegal.resPd = s.resPd := rfl
@[simp] theorem refuseIllegal_cmdBusy (s : State) : s.refuseIllegal.cmdBusy = s.cmdBusy := rfl
@[simp] theorem refuseIllegal_seqStep (s : State) : s.refuseIllegal.seqStep = s.seqStep := rfl
@[simp] theorem refuseIllegal_pass (s : State) : s.refuseIllegal.pass = s.pass := rfl
@[simp] theorem refuseIllegal_slot (s : State) : s.refuseIllegal.slot = s.slot := rfl
@[simp] theorem refuseIllegal_polls (s : State) : s.refuseIllegal.polls = s.polls := rfl
@[simp] theorem refuseIllegal_savedCtl (s : State) : s.refuseIllegal.savedCtl = s.savedCtl := rfl
@[simp] theorem refuseIllegal_loc (s : State) : s.refuseIllegal.loc = s.loc := rfl
@[simp] theorem refuseIllegal_refused (s : State) : s.refuseIllegal.refused = true := rfl
@[simp] theorem refuseIllegal_faults (s : State) : s.refuseIllegal.faults = s.faults := rfl
@[simp] theorem refuseIllegal_env (s : State) : s.refuseIllegal.env = s.env := rfl
@[simp] theorem refuseIllegal_freeCtr (s : State) : s.refuseIllegal.freeCtr = s.freeCtr := rfl
@[simp] theorem refuseIllegal_inst (s : State) (m : InstNum) : s.refuseIllegal.inst m = s.inst m := rfl

/-! ### discard -/

@[simp] theorem discard_params (s : State) : s.discard.params = s.params := rfl
@[simp] theorem discard_cmd (s : State) : s.discard.cmd = s.cmd := rfl
@[simp] theorem discard_arg0 (s : State) : s.discard.arg0 = s.arg0 := rfl
@[simp] theorem discard_arg1 (s : State) : s.discard.arg1 = s.arg1 := rfl
@[simp] theorem discard_status (s : State) : s.discard.status = s.status := rfl
@[simp] theorem discard_resRate (s : State) : s.discard.resRate = s.resRate := rfl
@[simp] theorem discard_resSeg1 (s : State) : s.discard.resSeg1 = s.resSeg1 := rfl
@[simp] theorem discard_resSeg2 (s : State) : s.discard.resSeg2 = s.resSeg2 := rfl
@[simp] theorem discard_resSjw (s : State) : s.discard.resSjw = s.resSjw := rfl
@[simp] theorem discard_resPd (s : State) : s.discard.resPd = s.resPd := rfl
@[simp] theorem discard_cmdBusy (s : State) : s.discard.cmdBusy = s.cmdBusy := rfl
@[simp] theorem discard_seqStep (s : State) : s.discard.seqStep = s.seqStep := rfl
@[simp] theorem discard_pass (s : State) : s.discard.pass = s.pass := rfl
@[simp] theorem discard_slot (s : State) : s.discard.slot = s.slot := rfl
@[simp] theorem discard_polls (s : State) : s.discard.polls = s.polls := rfl
@[simp] theorem discard_savedCtl (s : State) : s.discard.savedCtl = s.savedCtl := rfl
@[simp] theorem discard_loc (s : State) : s.discard.loc = s.loc := rfl
@[simp] theorem discard_refused (s : State) : s.discard.refused = true := rfl
@[simp] theorem discard_faults (s : State) : s.discard.faults = s.faults := rfl
@[simp] theorem discard_env (s : State) : s.discard.env = s.env := rfl
@[simp] theorem discard_freeCtr (s : State) : s.discard.freeCtr = s.freeCtr := rfl
@[simp] theorem discard_inst (s : State) (m : InstNum) : s.discard.inst m = s.inst m := rfl

/-! ### latch -/

@[simp] theorem latch_params (s : State) (h : HostCmd) : (s.latch h).params = s.params := rfl
@[simp] theorem latch_cmd (s : State) (h : HostCmd) : (s.latch h).cmd = h.word := rfl
@[simp] theorem latch_arg0 (s : State) (h : HostCmd) : (s.latch h).arg0 = h.arg0.getD s.arg0 := rfl
@[simp] theorem latch_arg1 (s : State) (h : HostCmd) : (s.latch h).arg1 = h.arg1.getD s.arg1 := rfl
@[simp] theorem latch_status (s : State) (h : HostCmd) : (s.latch h).status = s.status := rfl
@[simp] theorem latch_resRate (s : State) (h : HostCmd) : (s.latch h).resRate = s.resRate := rfl
@[simp] theorem latch_resSeg1 (s : State) (h : HostCmd) : (s.latch h).resSeg1 = s.resSeg1 := rfl
@[simp] theorem latch_resSeg2 (s : State) (h : HostCmd) : (s.latch h).resSeg2 = s.resSeg2 := rfl
@[simp] theorem latch_resSjw (s : State) (h : HostCmd) : (s.latch h).resSjw = s.resSjw := rfl
@[simp] theorem latch_resPd (s : State) (h : HostCmd) : (s.latch h).resPd = s.resPd := rfl
@[simp] theorem latch_cmdBusy (s : State) (h : HostCmd) : (s.latch h).cmdBusy = s.cmdBusy := rfl
@[simp] theorem latch_seqStep (s : State) (h : HostCmd) : (s.latch h).seqStep = s.seqStep := rfl
@[simp] theorem latch_pass (s : State) (h : HostCmd) : (s.latch h).pass = s.pass := rfl
@[simp] theorem latch_slot (s : State) (h : HostCmd) : (s.latch h).slot = s.slot := rfl
@[simp] theorem latch_polls (s : State) (h : HostCmd) : (s.latch h).polls = s.polls := rfl
@[simp] theorem latch_savedCtl (s : State) (h : HostCmd) : (s.latch h).savedCtl = s.savedCtl := rfl
@[simp] theorem latch_loc (s : State) (h : HostCmd) : (s.latch h).loc = s.loc := rfl
@[simp] theorem latch_refused (s : State) (h : HostCmd) : (s.latch h).refused = s.refused := rfl
@[simp] theorem latch_faults (s : State) (h : HostCmd) : (s.latch h).faults = s.faults := rfl
@[simp] theorem latch_env (s : State) (h : HostCmd) : (s.latch h).env = s.env := rfl
@[simp] theorem latch_freeCtr (s : State) (h : HostCmd) : (s.latch h).freeCtr = s.freeCtr := rfl
@[simp] theorem latch_inst (s : State) (h : HostCmd) (m : InstNum) : (s.latch h).inst m = s.inst m := rfl

/-! ### powerOn -/

@[simp] theorem powerOn_params (s : State) (n : InstNum) : (powerOn n s).params = s.params := rfl
@[simp] theorem powerOn_cmd (s : State) (n : InstNum) : (powerOn n s).cmd = s.cmd := rfl
@[simp] theorem powerOn_arg0 (s : State) (n : InstNum) : (powerOn n s).arg0 = s.arg0 := rfl
@[simp] theorem powerOn_arg1 (s : State) (n : InstNum) : (powerOn n s).arg1 = s.arg1 := rfl
@[simp] theorem powerOn_status (s : State) (n : InstNum) : (powerOn n s).status = s.status := rfl
@[simp] theorem powerOn_resRate (s : State) (n : InstNum) : (powerOn n s).resRate = s.resRate := rfl
@[simp] theorem powerOn_resSeg1 (s : State) (n : InstNum) : (powerOn n s).resSeg1 = s.resSeg1 := rfl
@[simp] theorem powerOn_resSeg2 (s : State) (n : InstNum) : (powerOn n s).resSeg2 = s.resSeg2 := rfl
@[simp] theorem powerOn_resSjw (s : State) (n : InstNum) : (powerOn n s).resSjw = s.resSjw := rfl
@[simp] theorem powerOn_resPd (s : State) (n : InstNum) : (powerOn n s).resPd = s.resPd := rfl
@[simp] theorem powerOn_cmdBusy (s : State) (n : InstNum) : (powerOn n s).cmdBusy = s.cmdBusy := rfl
@[simp] theorem powerOn_seqStep (s : State) (n : InstNum) : (powerOn n s).seqStep = s.seqStep := rfl
@[simp] theorem powerOn_pass (s : State) (n : InstNum) : (powerOn n s).pass = s.pass := rfl
@[simp] theorem powerOn_slot (s : State) (n : InstNum) : (powerOn n s).slot = s.slot := rfl
@[simp] theorem powerOn_polls (s : State) (n : InstNum) : (powerOn n s).polls = s.polls := rfl
@[simp] theorem powerOn_savedCtl (s : State) (n : InstNum) : (powerOn n s).savedCtl = s.savedCtl := rfl
@[simp] theorem powerOn_loc (s : State) (n : InstNum) : (powerOn n s).loc = s.loc := rfl
@[simp] theorem powerOn_refused (s : State) (n : InstNum) : (powerOn n s).refused = s.refused := rfl
@[simp] theorem powerOn_faults (s : State) (n : InstNum) : (powerOn n s).faults = s.faults := rfl
@[simp] theorem powerOn_env (s : State) (n : InstNum) : (powerOn n s).env = s.env := rfl
@[simp] theorem powerOn_freeCtr (s : State) (n : InstNum) : (powerOn n s).freeCtr = s.freeCtr := rfl

/-! ### periphReset -/

@[simp] theorem periphReset_params (s : State) (n : InstNum) : (periphReset n s).params = s.params := rfl
@[simp] theorem periphReset_cmd (s : State) (n : InstNum) : (periphReset n s).cmd = s.cmd := rfl
@[simp] theorem periphReset_arg0 (s : State) (n : InstNum) : (periphReset n s).arg0 = s.arg0 := rfl
@[simp] theorem periphReset_arg1 (s : State) (n : InstNum) : (periphReset n s).arg1 = s.arg1 := rfl
@[simp] theorem periphReset_status (s : State) (n : InstNum) : (periphReset n s).status = s.status := rfl
@[simp] theorem periphReset_resRate (s : State) (n : InstNum) : (periphReset n s).resRate = s.resRate := rfl
@[simp] theorem periphReset_resSeg1 (s : State) (n : InstNum) : (periphReset n s).resSeg1 = s.resSeg1 := rfl
@[simp] theorem periphReset_resSeg2 (s : State) (n : InstNum) : (periphReset n s).resSeg2 = s.resSeg2 := rfl
@[simp] theorem periphReset_resSjw (s : State) (n : InstNum) : (periphReset n s).resSjw = s.resSjw := rfl
@[simp] theorem periphReset_resPd (s : State) (n : InstNum) : (periphReset n s).resPd = s.resPd := rfl
@[simp] theorem periphReset_cmdBusy (s : State) (n : InstNum) : (periphReset n s).cmdBusy = s.cmdBusy := rfl
@[simp] theorem periphReset_seqStep (s : State) (n : InstNum) : (periphReset n s).seqStep = s.seqStep := rfl
@[simp] theorem periphReset_pass (s : State) (n : InstNum) : (periphReset n s).pass = s.pass := rfl
@[simp] theorem periphReset_slot (s : State) (n : InstNum) : (periphReset n s).slot = s.slot := rfl
@[simp] theorem periphReset_polls (s : State) (n : InstNum) : (periphReset n s).polls = s.polls := rfl
@[simp] theorem periphReset_savedCtl (s : State) (n : InstNum) : (periphReset n s).savedCtl = s.savedCtl := rfl
@[simp] theorem periphReset_loc (s : State) (n : InstNum) : (periphReset n s).loc = s.loc := rfl
@[simp] theorem periphReset_refused (s : State) (n : InstNum) : (periphReset n s).refused = s.refused := rfl
@[simp] theorem periphReset_faults (s : State) (n : InstNum) : (periphReset n s).faults = s.faults := rfl
@[simp] theorem periphReset_env (s : State) (n : InstNum) : (periphReset n s).env = s.env := rfl
@[simp] theorem periphReset_freeCtr (s : State) (n : InstNum) : (periphReset n s).freeCtr = s.freeCtr + 1 := rfl

/-! ### powerOff -/

@[simp] theorem powerOff_params (s : State) (n : InstNum) : (powerOff n s).params = s.params := rfl
@[simp] theorem powerOff_cmd (s : State) (n : InstNum) : (powerOff n s).cmd = s.cmd := rfl
@[simp] theorem powerOff_arg0 (s : State) (n : InstNum) : (powerOff n s).arg0 = s.arg0 := rfl
@[simp] theorem powerOff_arg1 (s : State) (n : InstNum) : (powerOff n s).arg1 = s.arg1 := rfl
@[simp] theorem powerOff_status (s : State) (n : InstNum) : (powerOff n s).status = s.status := rfl
@[simp] theorem powerOff_resRate (s : State) (n : InstNum) : (powerOff n s).resRate = s.resRate := rfl
@[simp] theorem powerOff_resSeg1 (s : State) (n : InstNum) : (powerOff n s).resSeg1 = s.resSeg1 := rfl
@[simp] theorem powerOff_resSeg2 (s : State) (n : InstNum) : (powerOff n s).resSeg2 = s.resSeg2 := rfl
@[simp] theorem powerOff_resSjw (s : State) (n : InstNum) : (powerOff n s).resSjw = s.resSjw := rfl
@[simp] theorem powerOff_resPd (s : State) (n : InstNum) : (powerOff n s).resPd = s.resPd := rfl
@[simp] theorem powerOff_cmdBusy (s : State) (n : InstNum) : (powerOff n s).cmdBusy = s.cmdBusy := rfl
@[simp] theorem powerOff_seqStep (s : State) (n : InstNum) : (powerOff n s).seqStep = s.seqStep := rfl
@[simp] theorem powerOff_pass (s : State) (n : InstNum) : (powerOff n s).pass = s.pass := rfl
@[simp] theorem powerOff_slot (s : State) (n : InstNum) : (powerOff n s).slot = s.slot := rfl
@[simp] theorem powerOff_polls (s : State) (n : InstNum) : (powerOff n s).polls = s.polls := rfl
@[simp] theorem powerOff_savedCtl (s : State) (n : InstNum) : (powerOff n s).savedCtl = s.savedCtl := rfl
@[simp] theorem powerOff_loc (s : State) (n : InstNum) : (powerOff n s).loc = s.loc := rfl
@[simp] theorem powerOff_refused (s : State) (n : InstNum) : (powerOff n s).refused = s.refused := rfl
@[simp] theorem powerOff_faults (s : State) (n : InstNum) : (powerOff n s).faults = s.faults := rfl
@[simp] theorem powerOff_env (s : State) (n : InstNum) : (powerOff n s).env = s.env := rfl
@[simp] theorem powerOff_freeCtr (s : State) (n : InstNum) : (powerOff n s).freeCtr = s.freeCtr + 1 := rfl

/-! ### setLoc -/

@[simp] theorem setLoc_params (s : State) (l : Locals) : (s.setLoc l).params = s.params := rfl
@[simp] theorem setLoc_cmd (s : State) (l : Locals) : (s.setLoc l).cmd = s.cmd := rfl
@[simp] theorem setLoc_arg0 (s : State) (l : Locals) : (s.setLoc l).arg0 = s.arg0 := rfl
@[simp] theorem setLoc_arg1 (s : State) (l : Locals) : (s.setLoc l).arg1 = s.arg1 := rfl
@[simp] theorem setLoc_status (s : State) (l : Locals) : (s.setLoc l).status = s.status := rfl
@[simp] theorem setLoc_resRate (s : State) (l : Locals) : (s.setLoc l).resRate = s.resRate := rfl
@[simp] theorem setLoc_resSeg1 (s : State) (l : Locals) : (s.setLoc l).resSeg1 = s.resSeg1 := rfl
@[simp] theorem setLoc_resSeg2 (s : State) (l : Locals) : (s.setLoc l).resSeg2 = s.resSeg2 := rfl
@[simp] theorem setLoc_resSjw (s : State) (l : Locals) : (s.setLoc l).resSjw = s.resSjw := rfl
@[simp] theorem setLoc_resPd (s : State) (l : Locals) : (s.setLoc l).resPd = s.resPd := rfl
@[simp] theorem setLoc_cmdBusy (s : State) (l : Locals) : (s.setLoc l).cmdBusy = s.cmdBusy := rfl
@[simp] theorem setLoc_seqStep (s : State) (l : Locals) : (s.setLoc l).seqStep = s.seqStep := rfl
@[simp] theorem setLoc_pass (s : State) (l : Locals) : (s.setLoc l).pass = s.pass := rfl
@[simp] theorem setLoc_slot (s : State) (l : Locals) : (s.setLoc l).slot = s.slot := rfl
@[simp] theorem setLoc_polls (s : State) (l : Locals) : (s.setLoc l).polls = s.polls := rfl
@[simp] theorem setLoc_savedCtl (s : State) (l : Locals) : (s.setLoc l).savedCtl = s.savedCtl := rfl
@[simp] theorem setLoc_loc (s : State) (l : Locals) : (s.setLoc l).loc = l := rfl
@[simp] theorem setLoc_refused (s : State) (l : Locals) : (s.setLoc l).refused = s.refused := rfl
@[simp] theorem setLoc_faults (s : State) (l : Locals) : (s.setLoc l).faults = s.faults := rfl
@[simp] theorem setLoc_env (s : State) (l : Locals) : (s.setLoc l).env = s.env := rfl
@[simp] theorem setLoc_freeCtr (s : State) (l : Locals) : (s.setLoc l).freeCtr = s.freeCtr := rfl
@[simp] theorem setLoc_inst (s : State) (l : Locals) (m : InstNum) : (s.setLoc l).inst m = s.inst m := rfl

/-! ### setSavedCtl -/

@[simp] theorem setSavedCtl_params (s : State) (v : Word) : (s.setSavedCtl v).params = s.params := rfl
@[simp] theorem setSavedCtl_cmd (s : State) (v : Word) : (s.setSavedCtl v).cmd = s.cmd := rfl
@[simp] theorem setSavedCtl_arg0 (s : State) (v : Word) : (s.setSavedCtl v).arg0 = s.arg0 := rfl
@[simp] theorem setSavedCtl_arg1 (s : State) (v : Word) : (s.setSavedCtl v).arg1 = s.arg1 := rfl
@[simp] theorem setSavedCtl_status (s : State) (v : Word) : (s.setSavedCtl v).status = s.status := rfl
@[simp] theorem setSavedCtl_resRate (s : State) (v : Word) : (s.setSavedCtl v).resRate = s.resRate := rfl
@[simp] theorem setSavedCtl_resSeg1 (s : State) (v : Word) : (s.setSavedCtl v).resSeg1 = s.resSeg1 := rfl
@[simp] theorem setSavedCtl_resSeg2 (s : State) (v : Word) : (s.setSavedCtl v).resSeg2 = s.resSeg2 := rfl
@[simp] theorem setSavedCtl_resSjw (s : State) (v : Word) : (s.setSavedCtl v).resSjw = s.resSjw := rfl
@[simp] theorem setSavedCtl_resPd (s : State) (v : Word) : (s.setSavedCtl v).resPd = s.resPd := rfl
@[simp] theorem setSavedCtl_cmdBusy (s : State) (v : Word) : (s.setSavedCtl v).cmdBusy = s.cmdBusy := rfl
@[simp] theorem setSavedCtl_seqStep (s : State) (v : Word) : (s.setSavedCtl v).seqStep = s.seqStep := rfl
@[simp] theorem setSavedCtl_pass (s : State) (v : Word) : (s.setSavedCtl v).pass = s.pass := rfl
@[simp] theorem setSavedCtl_slot (s : State) (v : Word) : (s.setSavedCtl v).slot = s.slot := rfl
@[simp] theorem setSavedCtl_polls (s : State) (v : Word) : (s.setSavedCtl v).polls = s.polls := rfl
@[simp] theorem setSavedCtl_savedCtl (s : State) (v : Word) : (s.setSavedCtl v).savedCtl = v := rfl
@[simp] theorem setSavedCtl_loc (s : State) (v : Word) : (s.setSavedCtl v).loc = s.loc := rfl
@[simp] theorem setSavedCtl_refused (s : State) (v : Word) : (s.setSavedCtl v).refused = s.refused := rfl
@[simp] theorem setSavedCtl_faults (s : State) (v : Word) : (s.setSavedCtl v).faults = s.faults := rfl
@[simp] theorem setSavedCtl_env (s : State) (v : Word) : (s.setSavedCtl v).env = s.env := rfl
@[simp] theorem setSavedCtl_freeCtr (s : State) (v : Word) : (s.setSavedCtl v).freeCtr = s.freeCtr := rfl
@[simp] theorem setSavedCtl_inst (s : State) (v : Word) (m : InstNum) : (s.setSavedCtl v).inst m = s.inst m := rfl

/-! ### setSlot -/

@[simp] theorem setSlot_params (s : State) (k : Nat) : (s.setSlot k).params = s.params := rfl
@[simp] theorem setSlot_cmd (s : State) (k : Nat) : (s.setSlot k).cmd = s.cmd := rfl
@[simp] theorem setSlot_arg0 (s : State) (k : Nat) : (s.setSlot k).arg0 = s.arg0 := rfl
@[simp] theorem setSlot_arg1 (s : State) (k : Nat) : (s.setSlot k).arg1 = s.arg1 := rfl
@[simp] theorem setSlot_status (s : State) (k : Nat) : (s.setSlot k).status = s.status := rfl
@[simp] theorem setSlot_resRate (s : State) (k : Nat) : (s.setSlot k).resRate = s.resRate := rfl
@[simp] theorem setSlot_resSeg1 (s : State) (k : Nat) : (s.setSlot k).resSeg1 = s.resSeg1 := rfl
@[simp] theorem setSlot_resSeg2 (s : State) (k : Nat) : (s.setSlot k).resSeg2 = s.resSeg2 := rfl
@[simp] theorem setSlot_resSjw (s : State) (k : Nat) : (s.setSlot k).resSjw = s.resSjw := rfl
@[simp] theorem setSlot_resPd (s : State) (k : Nat) : (s.setSlot k).resPd = s.resPd := rfl
@[simp] theorem setSlot_cmdBusy (s : State) (k : Nat) : (s.setSlot k).cmdBusy = s.cmdBusy := rfl
@[simp] theorem setSlot_seqStep (s : State) (k : Nat) : (s.setSlot k).seqStep = s.seqStep := rfl
@[simp] theorem setSlot_pass (s : State) (k : Nat) : (s.setSlot k).pass = s.pass := rfl
@[simp] theorem setSlot_slot (s : State) (k : Nat) : (s.setSlot k).slot = k := rfl
@[simp] theorem setSlot_polls (s : State) (k : Nat) : (s.setSlot k).polls = s.polls := rfl
@[simp] theorem setSlot_savedCtl (s : State) (k : Nat) : (s.setSlot k).savedCtl = s.savedCtl := rfl
@[simp] theorem setSlot_loc (s : State) (k : Nat) : (s.setSlot k).loc = s.loc := rfl
@[simp] theorem setSlot_refused (s : State) (k : Nat) : (s.setSlot k).refused = s.refused := rfl
@[simp] theorem setSlot_faults (s : State) (k : Nat) : (s.setSlot k).faults = s.faults := rfl
@[simp] theorem setSlot_env (s : State) (k : Nat) : (s.setSlot k).env = s.env := rfl
@[simp] theorem setSlot_freeCtr (s : State) (k : Nat) : (s.setSlot k).freeCtr = s.freeCtr := rfl
@[simp] theorem setSlot_inst (s : State) (k : Nat) (m : InstNum) : (s.setSlot k).inst m = s.inst m := rfl

/-! ### setPolls -/

@[simp] theorem setPolls_params (s : State) (k : Nat) : (s.setPolls k).params = s.params := rfl
@[simp] theorem setPolls_cmd (s : State) (k : Nat) : (s.setPolls k).cmd = s.cmd := rfl
@[simp] theorem setPolls_arg0 (s : State) (k : Nat) : (s.setPolls k).arg0 = s.arg0 := rfl
@[simp] theorem setPolls_arg1 (s : State) (k : Nat) : (s.setPolls k).arg1 = s.arg1 := rfl
@[simp] theorem setPolls_status (s : State) (k : Nat) : (s.setPolls k).status = s.status := rfl
@[simp] theorem setPolls_resRate (s : State) (k : Nat) : (s.setPolls k).resRate = s.resRate := rfl
@[simp] theorem setPolls_resSeg1 (s : State) (k : Nat) : (s.setPolls k).resSeg1 = s.resSeg1 := rfl
@[simp] theorem setPolls_resSeg2 (s : State) (k : Nat) : (s.setPolls k).resSeg2 = s.resSeg2 := rfl
@[simp] theorem setPolls_resSjw (s : State) (k : Nat) : (s.setPolls k).resSjw = s.resSjw := rfl
@[simp] theorem setPolls_resPd (s : State) (k : Nat) : (s.setPolls k).resPd = s.resPd := rfl
@[simp] theorem setPolls_cmdBusy (s : State) (k : Nat) : (s.setPolls k).cmdBusy = s.cmdBusy := rfl
@[simp] theorem setPolls_seqStep (s : State) (k : Nat) : (s.setPolls k).seqStep = s.seqStep := rfl
@[simp] theorem setPolls_pass (s : State) (k : Nat) : (s.setPolls k).pass = s.pass := rfl
@[simp] theorem setPolls_slot (s : State) (k : Nat) : (s.setPolls k).slot = s.slot := rfl
@[simp] theorem setPolls_polls (s : State) (k : Nat) : (s.setPolls k).polls = k := rfl
@[simp] theorem setPolls_savedCtl (s : State) (k : Nat) : (s.setPolls k).savedCtl = s.savedCtl := rfl
@[simp] theorem setPolls_loc (s : State) (k : Nat) : (s.setPolls k).loc = s.loc := rfl
@[simp] theorem setPolls_refused (s : State) (k : Nat) : (s.setPolls k).refused = s.refused := rfl
@[simp] theorem setPolls_faults (s : State) (k : Nat) : (s.setPolls k).faults = s.faults := rfl
@[simp] theorem setPolls_env (s : State) (k : Nat) : (s.setPolls k).env = s.env := rfl
@[simp] theorem setPolls_freeCtr (s : State) (k : Nat) : (s.setPolls k).freeCtr = s.freeCtr := rfl
@[simp] theorem setPolls_inst (s : State) (k : Nat) (m : InstNum) : (s.setPolls k).inst m = s.inst m := rfl

/-! ### setResRate -/

@[simp] theorem setResRate_params (s : State) (v : Word) : (s.setResRate v).params = s.params := rfl
@[simp] theorem setResRate_cmd (s : State) (v : Word) : (s.setResRate v).cmd = s.cmd := rfl
@[simp] theorem setResRate_arg0 (s : State) (v : Word) : (s.setResRate v).arg0 = s.arg0 := rfl
@[simp] theorem setResRate_arg1 (s : State) (v : Word) : (s.setResRate v).arg1 = s.arg1 := rfl
@[simp] theorem setResRate_status (s : State) (v : Word) : (s.setResRate v).status = s.status := rfl
@[simp] theorem setResRate_resRate (s : State) (v : Word) : (s.setResRate v).resRate = v := rfl
@[simp] theorem setResRate_resSeg1 (s : State) (v : Word) : (s.setResRate v).resSeg1 = s.resSeg1 := rfl
@[simp] theorem setResRate_resSeg2 (s : State) (v : Word) : (s.setResRate v).resSeg2 = s.resSeg2 := rfl
@[simp] theorem setResRate_resSjw (s : State) (v : Word) : (s.setResRate v).resSjw = s.resSjw := rfl
@[simp] theorem setResRate_resPd (s : State) (v : Word) : (s.setResRate v).resPd = s.resPd := rfl
@[simp] theorem setResRate_cmdBusy (s : State) (v : Word) : (s.setResRate v).cmdBusy = s.cmdBusy := rfl
@[simp] theorem setResRate_seqStep (s : State) (v : Word) : (s.setResRate v).seqStep = s.seqStep := rfl
@[simp] theorem setResRate_pass (s : State) (v : Word) : (s.setResRate v).pass = s.pass := rfl
@[simp] theorem setResRate_slot (s : State) (v : Word) : (s.setResRate v).slot = s.slot := rfl
@[simp] theorem setResRate_polls (s : State) (v : Word) : (s.setResRate v).polls = s.polls := rfl
@[simp] theorem setResRate_savedCtl (s : State) (v : Word) : (s.setResRate v).savedCtl = s.savedCtl := rfl
@[simp] theorem setResRate_loc (s : State) (v : Word) : (s.setResRate v).loc = s.loc := rfl
@[simp] theorem setResRate_refused (s : State) (v : Word) : (s.setResRate v).refused = s.refused := rfl
@[simp] theorem setResRate_faults (s : State) (v : Word) : (s.setResRate v).faults = s.faults := rfl
@[simp] theorem setResRate_env (s : State) (v : Word) : (s.setResRate v).env = s.env := rfl
@[simp] theorem setResRate_freeCtr (s : State) (v : Word) : (s.setResRate v).freeCtr = s.freeCtr := rfl
@[simp] theorem setResRate_inst (s : State) (v : Word) (m : InstNum) : (s.setResRate v).inst m = s.inst m := rfl

/-! ### setResTiming -/

@[simp] theorem setResTiming_params (s : State) (a b c d : ResField) : (s.setResTiming a b c d).params = s.params := rfl
@[simp] theorem setResTiming_cmd (s : State) (a b c d : ResField) : (s.setResTiming a b c d).cmd = s.cmd := rfl
@[simp] theorem setResTiming_arg0 (s : State) (a b c d : ResField) : (s.setResTiming a b c d).arg0 = s.arg0 := rfl
@[simp] theorem setResTiming_arg1 (s : State) (a b c d : ResField) : (s.setResTiming a b c d).arg1 = s.arg1 := rfl
@[simp] theorem setResTiming_status (s : State) (a b c d : ResField) : (s.setResTiming a b c d).status = s.status := rfl
@[simp] theorem setResTiming_resRate (s : State) (a b c d : ResField) : (s.setResTiming a b c d).resRate = s.resRate := rfl
@[simp] theorem setResTiming_resSeg1 (s : State) (a b c d : ResField) : (s.setResTiming a b c d).resSeg1 = a := rfl
@[simp] theorem setResTiming_resSeg2 (s : State) (a b c d : ResField) : (s.setResTiming a b c d).resSeg2 = b := rfl
@[simp] theorem setResTiming_resSjw (s : State) (a b c d : ResField) : (s.setResTiming a b c d).resSjw = c := rfl
@[simp] theorem setResTiming_resPd (s : State) (a b c d : ResField) : (s.setResTiming a b c d).resPd = d := rfl
@[simp] theorem setResTiming_cmdBusy (s : State) (a b c d : ResField) : (s.setResTiming a b c d).cmdBusy = s.cmdBusy := rfl
@[simp] theorem setResTiming_seqStep (s : State) (a b c d : ResField) : (s.setResTiming a b c d).seqStep = s.seqStep := rfl
@[simp] theorem setResTiming_pass (s : State) (a b c d : ResField) : (s.setResTiming a b c d).pass = s.pass := rfl
@[simp] theorem setResTiming_slot (s : State) (a b c d : ResField) : (s.setResTiming a b c d).slot = s.slot := rfl
@[simp] theorem setResTiming_polls (s : State) (a b c d : ResField) : (s.setResTiming a b c d).polls = s.polls := rfl
@[simp] theorem setResTiming_savedCtl (s : State) (a b c d : ResField) : (s.setResTiming a b c d).savedCtl = s.savedCtl := rfl
@[simp] theorem setResTiming_loc (s : State) (a b c d : ResField) : (s.setResTiming a b c d).loc = s.loc := rfl
@[simp] theorem setResTiming_refused (s : State) (a b c d : ResField) : (s.setResTiming a b c d).refused = s.refused := rfl
@[simp] theorem setResTiming_faults (s : State) (a b c d : ResField) : (s.setResTiming a b c d).faults = s.faults := rfl
@[simp] theorem setResTiming_env (s : State) (a b c d : ResField) : (s.setResTiming a b c d).env = s.env := rfl
@[simp] theorem setResTiming_freeCtr (s : State) (a b c d : ResField) : (s.setResTiming a b c d).freeCtr = s.freeCtr := rfl
@[simp] theorem setResTiming_inst (s : State) (a b c d : ResField) (m : InstNum) : (s.setResTiming a b c d).inst m = s.inst m := rfl

/-! ### setEnv -/

@[simp] theorem setEnv_params (s : State) (e : List Turn) : (s.setEnv e).params = s.params := rfl
@[simp] theorem setEnv_cmd (s : State) (e : List Turn) : (s.setEnv e).cmd = s.cmd := rfl
@[simp] theorem setEnv_arg0 (s : State) (e : List Turn) : (s.setEnv e).arg0 = s.arg0 := rfl
@[simp] theorem setEnv_arg1 (s : State) (e : List Turn) : (s.setEnv e).arg1 = s.arg1 := rfl
@[simp] theorem setEnv_status (s : State) (e : List Turn) : (s.setEnv e).status = s.status := rfl
@[simp] theorem setEnv_resRate (s : State) (e : List Turn) : (s.setEnv e).resRate = s.resRate := rfl
@[simp] theorem setEnv_resSeg1 (s : State) (e : List Turn) : (s.setEnv e).resSeg1 = s.resSeg1 := rfl
@[simp] theorem setEnv_resSeg2 (s : State) (e : List Turn) : (s.setEnv e).resSeg2 = s.resSeg2 := rfl
@[simp] theorem setEnv_resSjw (s : State) (e : List Turn) : (s.setEnv e).resSjw = s.resSjw := rfl
@[simp] theorem setEnv_resPd (s : State) (e : List Turn) : (s.setEnv e).resPd = s.resPd := rfl
@[simp] theorem setEnv_cmdBusy (s : State) (e : List Turn) : (s.setEnv e).cmdBusy = s.cmdBusy := rfl
@[simp] theorem setEnv_seqStep (s : State) (e : List Turn) : (s.setEnv e).seqStep = s.seqStep := rfl
@[simp] theorem setEnv_pass (s : State) (e : List Turn) : (s.setEnv e).pass = s.pass := rfl
@[simp] theorem setEnv_slot (s : State) (e : List Turn) : (s.setEnv e).slot = s.slot := rfl
@[simp] theorem setEnv_polls (s : State) (e : List Turn) : (s.setEnv e).polls = s.polls := rfl
@[simp] theorem setEnv_savedCtl (s : State) (e : List Turn) : (s.setEnv e).savedCtl = s.savedCtl := rfl
@[simp] theorem setEnv_loc (s : State) (e : List Turn) : (s.setEnv e).loc = s.loc := rfl
@[simp] theorem setEnv_refused (s : State) (e : List Turn) : (s.setEnv e).refused = s.refused := rfl
@[simp] theorem setEnv_faults (s : State) (e : List Turn) : (s.setEnv e).faults = s.faults := rfl
@[simp] theorem setEnv_env (s : State) (e : List Turn) : (s.setEnv e).env = e := rfl
@[simp] theorem setEnv_freeCtr (s : State) (e : List Turn) : (s.setEnv e).freeCtr = s.freeCtr := rfl
@[simp] theorem setEnv_inst (s : State) (e : List Turn) (m : InstNum) : (s.setEnv e).inst m = s.inst m := rfl

/-! ### The instance a collaborator's answer or a phase write changes -/

@[simp] theorem setPhase_inst_self (s : State) (n : InstNum) (p : Phase) :
    (s.setPhase n p).inst n = (s.inst n).setPhase p := inst_setInst_self ..

theorem setPhase_inst_ne (s : State) {n m : InstNum} (p : Phase) (h : m ≠ n) :
    (s.setPhase n p).inst m = s.inst m := inst_setInst_ne _ _ h

@[simp] theorem powerOn_inst_self (s : State) (n : InstNum) :
    (powerOn n s).inst n = (s.inst n).setPowered true := inst_setInst_self ..

theorem powerOn_inst_ne (s : State) {n m : InstNum} (h : m ≠ n) : (powerOn n s).inst m = s.inst m :=
  inst_setInst_ne _ _ h

@[simp] theorem periphReset_inst_self (s : State) (n : InstNum) :
    (periphReset n s).inst n = { s.inst n with
      regs := s.params.resetValues.implemented, pending := none, objects := freeObjects s.freeCtr } :=
  inst_setInst_self s n _

theorem periphReset_inst_ne (s : State) {n m : InstNum} (h : m ≠ n) : (periphReset n s).inst m = s.inst m :=
  inst_setInst_ne s _ h

@[simp] theorem powerOff_inst_self (s : State) (n : InstNum) :
    (powerOff n s).inst n = { s.inst n with
      powered := false, regs := (freeRegs s.freeCtr).implemented, pending := none,
      objects := freeObjects s.freeCtr } :=
  inst_setInst_self s n _

theorem powerOff_inst_ne (s : State) {n m : InstNum} (h : m ≠ n) : (powerOff n s).inst m = s.inst m :=
  inst_setInst_ne s _ h

end Sys2Proof.Machine
end

