-- ==== Sys2Proof/Laws/Ops.lean ====
section
/-! SUPPORT. One lemma per shared operation that says what it does, cited instead of unfolding it: register reads and
writes, the micro-operation wrappers, the presentation of a command, the wait and the slot loop. -/

namespace Sys2Proof.Machine

open Sys2Proof.Config

/-! ### Register addresses -/

@[simp] theorem atOffset_offset (r : Reg) : Reg.atOffset r.offset = some r := by cases r <;> decide

theorem offset_aligned (r : Reg) : r.offset.toNat % 4 = 0 := by cases r <;> decide

theorem regAddr_sub_base (s : State) (n : InstNum) (r : Reg) : s.regAddr n r - s.base n = r.offset := by
  simp [State.regAddr, BitVec.add_comm (s.base n)]

theorem base_aligned {s : State} (hp : s.params.Wf) (n : InstNum) : (s.base n).toNat % 4 = 0 := by
  simpa [State.base] using hp.bases.1 ⟨n.toNat, n.isLt⟩

theorem regAddr_aligned {s : State} (hp : s.params.Wf) (n : InstNum) (r : Reg) :
    (s.regAddr n r).toNat % 4 = 0 := by
  have h1 := base_aligned hp n
  have h2 := offset_aligned r
  rw [State.regAddr, BitVec.toNat_add]
  omega

/-- An access at a register's own address reaches it when the instance is powered (spec/20_memory.md R62). -/
theorem accessReg_regAddr {s : State} (hp : s.params.Wf) {n : InstNum} (hpow : (s.inst n).powered = true) (r : Reg) :
    accessReg n (s.regAddr n r) 4 s = .ok r := by
  simp [accessReg, hpow, regAddr_aligned hp, regAddr_sub_base]

theorem accessReg_unpowered {s : State} {n : InstNum} (h : (s.inst n).powered = false) (a : Word) (w : Nat) :
    accessReg n a w s = .error .noClock := by
  simp [accessReg, h]

theorem memRead_regAddr {s : State} (hp : s.params.Wf) {n : InstNum} (hpow : (s.inst n).powered = true) (r : Reg) :
    memRead n (s.regAddr n r) 4 s = .ok ((s.inst n).read r) := by
  simp [memRead, accessReg_regAddr hp hpow]

/-- A micro-operation that reads a register of a powered instance goes on with the register's value. -/
theorem withRead_next {s : State} (hp : s.params.Wf) {n : InstNum} (hpow : (s.inst n).powered = true) (r : Reg)
    (k : Word → State → State) : withRead n r k s = .next (k ((s.inst n).read r) s) := by
  simp [withRead, memRead_regAddr hp hpow]

/-! ### The stored registers -/

@[simp] theorem read_setPhase (x : CanInst) (p : Phase) (r : Reg) : (x.setPhase p).read r = x.read r := by
  cases r <;> rfl

@[simp] theorem read_setPowered (x : CanInst) (p : Bool) (r : Reg) : (x.setPowered p).read r = x.read r := by
  cases r <;> rfl

/-- Only IF1CRQ shows the pending transfer. -/
theorem read_setPending (x : CanInst) (p : Option ObjIdx) {r : Reg} (h : r ≠ .if1crq) :
    (x.setPending p).read r = x.read r := by
  cases r <;> first | exact absurd rfl h | rfl

@[simp] theorem store_powered (x : CanInst) (p : Bool) (r : Reg) (v : Word) : (x.store p r v).powered = x.powered := by
  unfold CanInst.store; split <;> rfl

@[simp] theorem store_phase (x : CanInst) (p : Bool) (r : Reg) (v : Word) : (x.store p r v).phase = x.phase := by
  unfold CanInst.store; split <;> rfl

@[simp] theorem store_pending (x : CanInst) (p : Bool) (r : Reg) (v : Word) : (x.store p r v).pending = x.pending := by
  unfold CanInst.store; split <;> rfl

@[simp] theorem store_objects (x : CanInst) (p : Bool) (r : Reg) (v : Word) : (x.store p r v).objects = x.objects := by
  unfold CanInst.store; split <;> rfl

/-- Every register but BIT and BRPE is always write enabled (spec/10_state.md R29). -/
theorem writeEnabled_of_not_timing (x : CanInst) (p : Bool) {r : Reg} (h : r.isTiming = false) :
    x.writeEnabled p r = true := by simp [CanInst.writeEnabled, h]

/-- With INIT and CCE set every register is write enabled (R29). -/
theorem writeEnabled_of_configuring (x : CanInst) (p : Bool) (r : Reg) (hi : initBit x.regs.ctl = true)
    (hc : cceBit x.regs.ctl = true) : x.writeEnabled p r = true := by
  simp [CanInst.writeEnabled, hi, hc]

theorem store_of_enabled {x : CanInst} {p : Bool} {r : Reg} (h : x.writeEnabled p r = true) (v : Word) :
    x.store p r v = { x with regs := x.regs.set r (v &&& r.writable) } := by
  simp [CanInst.store, h]

theorem store_of_protected {x : CanInst} {p : Bool} {r : Reg} (h : x.writeEnabled p r = false) (v : Word) :
    x.store p r v = x := by
  simp [CanInst.store, h]

/-- A read after an effective write returns the written implemented bits (R21). -/
theorem read_store_self {x : CanInst} {p : Bool} {r : Reg} (h : x.writeEnabled p r = true) (hr : r ≠ .if1crq) (v : Word) :
    (x.store p r v).read r = v &&& r.writable := by
  rw [store_of_enabled h]
  cases r <;> simp_all [CanInst.read, RegFile.set, BitVec.and_assoc]

/-- A write leaves every other register's read value alone. -/
theorem read_store_ne (x : CanInst) (p : Bool) {r r' : Reg} (h : r' ≠ r) (v : Word) :
    (x.store p r v).read r' = x.read r' := by
  unfold CanInst.store
  split
  · cases r <;> cases r' <;> first | exact absurd rfl h | rfl
  · rfl

/-- What a read returns lies within the implemented bits (R21). -/
theorem read_within_impl (x : CanInst) (r : Reg) : x.read r &&& r.impl = x.read r := by
  cases r
  case if1crq =>
    cases hp : x.pending <;>
      simp [CanInst.read, Reg.impl, Reg.writable, hp, busyFlag, BitVec.and_assoc, BitVec.and_or_distrib_right]
  all_goals simp [CanInst.read, Reg.impl, Reg.writable, BitVec.and_assoc]

/-- BUSY in a read of IF1CRQ is 1 exactly when a transfer is pending (R36). -/
@[simp] theorem busyBit_read (x : CanInst) : busyBit (x.read .if1crq) = x.pending.isSome := by
  cases hp : x.pending <;> simp [CanInst.read, Reg.writable, hp, busyFlag, busyBit]

@[simp] theorem implemented_implemented (f : RegFile) : f.implemented.implemented = f.implemented := by
  simp [RegFile.implemented, BitVec.and_assoc]

/-- A write keeps the stored registers within the implemented bits (R21). -/
theorem store_implemented {x : CanInst} (h : x.regs.implemented = x.regs) (p : Bool) (r : Reg) (v : Word) :
    (x.store p r v).regs.implemented = (x.store p r v).regs := by
  obtain ⟨_, _, ⟨_, _, _, _, _, _, _, _⟩, _, _⟩ := x
  unfold CanInst.store
  split
  · simp only [RegFile.implemented, RegFile.mk.injEq] at h
    cases r <;> simp [RegFile.set, RegFile.implemented, BitVec.and_assoc, h]
  · exact h

/-! ### Register writes -/

/-- A write meets no fault when it is no write to IF1CRQ, and no IF1 write during a transfer (R174). -/
theorem write_of_quiet {x : CanInst} {r : Reg} (hr : r ≠ .if1crq) (hq : r.isIf1 = true → x.pending = none) (p : Bool)
    (v : Word) : x.write p r v = (x.store p r v, none) := by
  cases h : r.isIf1
  · simp [CanInst.write, hr, h]
  · simp [CanInst.write, hr, hq h]

/-- A micro-operation that writes such a register of a powered instance goes on (R62). -/
theorem withWrite_next {s : State} (hp : s.params.Wf) {n : InstNum} (hpow : (s.inst n).powered = true)
    (hf : s.faults = []) {r : Reg} (hr : r ≠ .if1crq) (hq : r.isIf1 = true → (s.inst n).pending = none) (v : Word)
    (k : State → State) :
    withWrite n r v k s = .next (k (s.setInst n ((s.inst n).store s.params.writeProtect r v))) := by
  simp [withWrite, memWrite, accessReg_regAddr hp hpow, write_of_quiet hr hq, State.recordFault?, hf]

/-- A request for object `k` of an instance with no transfer pending starts its transfer (R172). -/
theorem write_request {x : CanInst} (hq : x.pending = none) (p : Bool) {v : Word} {k : ObjIdx}
    (hk : objectOfMnum (mnumField v) = some k) :
    x.write p .if1crq v = ((x.store p .if1crq v).setPending (some k), none) := by
  simp [CanInst.write, CanInst.request, hq, hk]

/-- The micro-operation that writes such a request goes on. -/
theorem withWrite_request {s : State} (hp : s.params.Wf) {n : InstNum} (hpow : (s.inst n).powered = true)
    (hf : s.faults = []) (hq : (s.inst n).pending = none) {v : Word} {o : ObjIdx}
    (ho : objectOfMnum (mnumField v) = some o) (k : State → State) :
    withWrite n .if1crq v k s =
      .next (k (s.setInst n (((s.inst n).store s.params.writeProtect .if1crq v).setPending (some o)))) := by
  simp [withWrite, memWrite, accessReg_regAddr hp hpow, write_request hq _ ho, State.recordFault?, hf]

/-- Slot numbers 1..32 name objects (R170, R172). -/
theorem objectOfMnum_slot {k : Nat} (h1 : 1 ≤ k) (h2 : k ≤ 32) :
    objectOfMnum (mnumField (BitVec.ofNat 32 k)) = some ⟨k - 1, by omega⟩ := by
  have : (mnumField (BitVec.ofNat 32 k)).toNat = k := by
    simp [mnumField]
    omega
  simp [objectOfMnum, this, h1, h2]

/-! ### Presentation -/

/-- A presented command is taken when its phase gate is open (spec/60_exceptions.md R204). -/
theorem command_taken {legal : Phase → Bool} {take : State → State} {n : InstNum} {micro : State → Result} {s : State}
    (hb : s.cmdBusy = false) (hf : s.faults = []) (hl : legal (s.inst n).phase = true) :
    command legal take n micro s = .next (take s) := by
  simp [command, hb, hf, hl]

/-- A presented command is refused when its phase gate is closed (R204). -/
theorem command_refused {legal : Phase → Bool} {take : State → State} {n : InstNum} {micro : State → Result} {s : State}
    (hb : s.cmdBusy = false) (hf : s.faults = []) (hl : legal (s.inst n).phase = false) :
    command legal take n micro s = .next s.refuseState := by
  simp [command, hb, hf, hl]

/-- A running command does its next micro-operation. -/
theorem command_running {legal : Phase → Bool} {take : State → State} {n : InstNum} {micro : State → Result} {s : State}
    (hb : s.cmdBusy = true) (hf : s.faults = []) : command legal take n micro s = micro s := by
  simp [command, hb, hf]

/-- A recorded fault stops a command, presented or running (R205). -/
theorem command_faulted {legal : Phase → Bool} {take : State → State} {n : InstNum} {micro : State → Result} {s : State}
    {f : Fault} {fs : List Fault} (hf : s.faults = f :: fs) : command legal take n micro s = .fault f := by
  simp [command, hf]

/-! ### Waits and slots (spec/42_message_objects.md R170, R171) -/

/-- A wait's read with no transfer pending goes on. -/
theorem waitNotBusy_quiet {s : State} (hp : s.params.Wf) {n : InstNum} (hpow : (s.inst n).powered = true)
    (hq : (s.inst n).pending = none) : waitNotBusy n s = .next s.advance := by
  simp [waitNotBusy, withRead_next hp hpow, pollOn, hq]

/-- A wait's read during a transfer is counted, and repeated unless the count reaches POLL_LIMIT. -/
theorem waitNotBusy_busy {s : State} (hp : s.params.Wf) {n : InstNum} (hpow : (s.inst n).powered = true)
    {k : ObjIdx} (hq : (s.inst n).pending = some k) :
    waitNotBusy n s = .next (if pollsExhausted s.params.pollLimit (s.polls + 1)
      then (s.setPolls (s.polls + 1)).finish statusTimeout else s.setPolls (s.polls + 1)) := by
  simp [waitNotBusy, withRead_next hp hpow, pollOn, hq]
  rfl

theorem nextSlot_more {s : State} (h : s.slot < 32) (w : Nat) (after : State → State) :
    s.nextSlot w after = (s.setSlot (s.slot + 1)).enterWait w := by
  have : s.slot + 1 ≤ nObjects := h
  simp [State.nextSlot, this]

theorem nextSlot_done {s : State} (h : 32 ≤ s.slot) (w : Nat) (after : State → State) :
    s.nextSlot w after = after (s.setSlot (s.slot + 1)) := by
  have : ¬ s.slot + 1 ≤ nObjects := by unfold nObjects; omega
  simp [State.nextSlot, this]

/-! ### The message handler (R173) -/

theorem complete_write {x : CanInst} (h : x.read .if1cmsk = cmskWrite) (k : ObjIdx) :
    x.complete k = some ((x.setObject k (transferWrite x (x.object k))).setPending none) := by
  simp [CanInst.complete, transfer, h]

theorem complete_clear {x : CanInst} (h : x.read .if1cmsk = cmskClear) (k : ObjIdx) :
    x.complete k = some ((x.setObject k (transferClear (x.object k))).setPending none) := by
  have : cmskClear ≠ cmskWrite := by decide
  simp [CanInst.complete, transfer, h, this]

@[simp] theorem object_setObject_self (x : CanInst) (k : ObjIdx) (o : MsgObject) : (x.setObject k o).object k = o := by
  simp [CanInst.setObject, CanInst.object]

theorem object_setObject_ne (x : CanInst) {k j : ObjIdx} (o : MsgObject) (h : j ≠ k) :
    (x.setObject k o).object j = x.object j := by
  have : k.val ≠ j.val := fun e => h (Fin.ext e.symm)
  simp [CanInst.setObject, CanInst.object, Vector.getElem_set_ne, this]

/-- A completion changes only the object and `pending`. -/
theorem complete_frame {x y : CanInst} {k : ObjIdx} (h : x.complete k = some y) :
    y.powered = x.powered ∧ y.phase = x.phase ∧ y.regs = x.regs ∧ y.pending = none ∧
      ∀ j, j ≠ k → y.object j = x.object j := by
  unfold CanInst.complete at h
  split at h
  · next o ho =>
    injection h with h
    subst h
    exact ⟨rfl, rfl, rfl, rfl, fun j hj => object_setObject_ne x o hj⟩
  · cases h

end Sys2Proof.Machine
end

