-- ==== Sys2Proof/Laws/PerInstr.lean ====
section
/-! SUPPORT. Per command: the fields of its word (spec/30_encoding.md R80, R86), one lemma per constructor. -/

namespace Sys2Proof.Laws.EncodeFields

open Sys2Proof

/-- The word of a command has its opcode in bits 3:0, its instance in bits 7:4, and zeros in bits 31:8. -/
def Statement (i : Instr) : Prop :=
  opcField (encode i) = i.opc ∧ instField (encode i) = i.inst ∧ reservedField (encode i) = 0

theorem construct (n : InstNum) : Statement (.construct n) := by
  unfold Statement; revert n; decide

theorem solve (n : InstNum) : Statement (.solve n) := by
  unfold Statement; revert n; decide

theorem setBitRate (n : InstNum) : Statement (.setBitRate n) := by
  unfold Statement; revert n; decide

theorem changeBaudRate (n : InstNum) : Statement (.changeBaudRate n) := by
  unfold Statement; revert n; decide

theorem initMsgObjects (n : InstNum) : Statement (.initMsgObjects n) := by
  unfold Statement; revert n; decide

theorem enable (n : InstNum) : Statement (.enable n) := by
  unfold Statement; revert n; decide

theorem disable (n : InstNum) : Statement (.disable n) := by
  unfold Statement; revert n; decide

theorem getBitTiming (n : InstNum) : Statement (.getBitTiming n) := by
  unfold Statement; revert n; decide

theorem release (n : InstNum) : Statement (.release n) := by
  unfold Statement; revert n; decide

end Sys2Proof.Laws.EncodeFields
end

