-- ==== Sys2Proof/Tests/Slice0.lean ====
section
/-! SUPPORT. Tests with results taken from spec/95_test_vectors.md (the vector is named at each), and for every
obligation with hypotheses a state or operands that meet them. -/

namespace Sys2Proof.Tests

open Sys2Proof Sys2Proof.Machine Sys2Proof.Config

/-! ### Small states -/

/-- Reset, but for instance 0, powered, in a phase, with the given CTL and BIT. -/
def with0 (p : Phase) (ctl bit : Word) : State :=
  State.reset.setInst 0 { CanInst.reset with
    powered := true, phase := p, regs := { defaultResetValues with ctl := ctl, bit := bit } }

/-- Instance 0 after CONSTRUCT (T1 of spec/95_test_vectors.md), with its objects all 0. -/
def constructed : State := with0 .initialized 0x40 0x2301

/-- Instance 0 after CONSTRUCT and DISABLE. -/
def disabled : State := with0 .disabled 0x41 0x2301

/-- A command of `s` running at a position, with its operands. -/
def running (i : Instr) (k : Nat) (a b : Word) (s : State) : State :=
  { s with cmd := encode i, arg0 := a, arg1 := b, cmdBusy := true, seqStep := k }

/-- The same state with a transfer of an object of instance 0 pending, and a command mask. -/
def pendingWith (k : ObjIdx) (mask : Word) (s : State) : State :=
  s.setInst 0 { s.inst 0 with pending := some k, regs := { (s.inst 0).regs with if1cmsk := mask } }

/-- A parameter changed. -/
def withParams (f : Params → Params) (s : State) : State := { s with params := f s.params }

/-! ### Well-formedness -/

theorem wf_defaults : defaultParams.Wf := by constructor <;> decide

theorem test_wf_refuses_missing_instance : (Instr.solve 2).wf 2 = false := by decide

theorem test_wf_takes_last_instance : (Instr.solve 1).wf 2 = true := by decide

theorem test_wf_refuses_no_instance : ¬ { defaultParams with nInst := 0 }.Wf :=
  fun h => absurd h.instances (by decide)

theorem test_wf_refuses_too_many_instances : ¬ { defaultParams with nInst := 17 }.Wf :=
  fun h => absurd h.instances (by decide)

theorem test_wf_refuses_misaligned_base : ¬ { defaultParams with bases := defaultBases.set 0 0x40040002 }.Wf :=
  fun h => absurd h.bases.1 (by decide)

theorem test_wf_refuses_overlapping_windows : ¬ { defaultParams with bases := defaultBases.set 1 0x40040FFC }.Wf :=
  fun h => absurd h.bases.2 (by decide)

theorem test_wf_refuses_seg1_of_one : ¬ { defaultParams with table := defaultTable.set 3 ⟨1, 2, 1⟩ }.Wf :=
  fun h => absurd h.table (by decide)

theorem test_wf_refuses_seg2_of_nine : ¬ { defaultParams with table := defaultTable.set 3 ⟨2, 9, 1⟩ }.Wf :=
  fun h => absurd h.table (by decide)

theorem test_wf_refuses_sjw_of_five : ¬ { defaultParams with table := defaultTable.set 3 ⟨2, 2, 5⟩ }.Wf :=
  fun h => absurd h.table (by decide)

theorem test_wf_refuses_default_bit_with_bit15 : ¬ { defaultParams with defaultBit := 0xA301 }.Wf :=
  fun h => absurd h.defaultBit (by decide)

theorem test_wf_refuses_default_bit_with_tseg1_zero : ¬ { defaultParams with defaultBit := 0x2001 }.Wf :=
  fun h => absurd h.defaultBit (by decide)

theorem test_wf_refuses_wide_default_bit : ¬ { defaultParams with defaultBit := 0x12301 }.Wf :=
  fun h => absurd h.defaultBit (by decide)

theorem test_wf_refuses_poll_limit_zero : ¬ { defaultParams with pollLimit := some 0 }.Wf :=
  fun h => absurd h.pollLimit (by decide)

theorem test_wf_refuses_reset_value_off_mask :
    ¬ { defaultParams with resetValues := { defaultResetValues with brpe := 0x10 } }.Wf :=
  fun h => absurd h.resetValues (by decide)

/-! ### Decoding: words written from the format of spec/30_encoding.md R80, R81 -/

theorem test_decode_construct : decode 2 0b00000000000000000000000000000001 = .ok (.construct 0) := by decide
theorem test_decode_solve : decode 2 0b00000000000000000000000000010010 = .ok (.solve 1) := by decide
theorem test_decode_setBitRate : decode 2 0b00000000000000000000000000000011 = .ok (.setBitRate 0) := by decide
theorem test_decode_changeBaudRate : decode 2 0b00000000000000000000000000010100 = .ok (.changeBaudRate 1) := by
  decide
theorem test_decode_initMsgObjects : decode 2 0b00000000000000000000000000010101 = .ok (.initMsgObjects 1) := by
  decide
theorem test_decode_enable : decode 2 0b00000000000000000000000000000110 = .ok (.enable 0) := by decide
theorem test_decode_disable : decode 2 0b00000000000000000000000000010111 = .ok (.disable 1) := by decide
theorem test_decode_getBitTiming : decode 2 0b00000000000000000000000000001000 = .ok (.getBitTiming 0) := by decide
theorem test_decode_release : decode 2 0b00000000000000000000000000011001 = .ok (.release 1) := by decide

/-- With all sixteen instances the field INST is four bits. -/
theorem test_decode_inst_15 : decode 16 0b00000000000000000000000011110110 = .ok (.enable 15) := by decide

/-- E4, E6 -/
theorem test_decode_reserved_opcodes :
    decode 2 0x00000000 = .error .reservedOpcode ∧ decode 2 0x0000000F = .error .reservedOpcode := by decide

/-- E7, E9 -/
theorem test_decode_reserved_bits :
    decode 2 0x00000102 = .error .reservedBits ∧ decode 2 0x80000003 = .error .reservedBits := by decide

/-- E8 -/
theorem test_decode_missing_instance : decode 2 0x00000022 = .error .noSuchInst := by decide

/-- The words of programs P1 and P2. -/
theorem test_encode_program_words :
    encode (.construct 0) = 0x1 ∧ encode (.setBitRate 1) = 0x13 ∧ encode (.release 1) = 0x19 := by decide

theorem test_table_word : decodeTableWord 32 0x14 = some (.changeBaudRate 1) ∧ decodeTableWord 32 0x22 = none := by
  decide

/-- R86: a line of SOLVE writes both operands, a line of ENABLE none. -/
theorem test_assemble :
    assemble (.solve 0) 16000000 500000 = ⟨0x2, some 16000000, some 500000⟩ ∧
    assemble (.enable 0) 16000000 500000 = ⟨0x6, none, none⟩ := by decide

/-! ### Bit-timing fields -/

/-- F3, F4 -/
theorem test_encode_fields :
    encodeBit ⟨8, 7, 4⟩ 500 = 0x67F3 ∧ encodeBrpe 500 = 0x7 ∧ encodeBit ⟨10, 8, 4⟩ 1024 = 0x79FF ∧
    encodeBrpe 1024 = 0xF := by decide

/-- F5, F6 -/
theorem test_encode_fields_extremes :
    encodeBit ⟨16, 8, 4⟩ 64 = 0x7FFF ∧ encodeBrpe 64 = 0x0 ∧ encodeBit ⟨8, 7, 4⟩ 65 = 0x67C0 ∧
    encodeBrpe 65 = 0x1 := by decide

/-- F8, F9 -/
theorem test_decode_fields :
    (decodeSeg1 0xFFFF, decodeSeg2 0xFFFF, decodeSjw 0xFFFF, decodePd 0xFFFF 0xF) = (16, 16, 4, 1024) ∧
    (decodeSeg1 0x2301, decodeSeg2 0x2301, decodeSjw 0x2301, decodePd 0x2301 0) = (4, 3, 1, 2) := by decide

/-! ### The solver -/

/-- S1 -/
theorem test_solve_16M_500k : solveFor defaultTable 16000000 500000 = some ⟨32, 12, 2, ⟨8, 7, 4⟩⟩ := by decide

/-- S8: 10 is the largest divisor of 50. -/
theorem test_solve_50M_1M : solveFor defaultTable 50000000 1000000 = some ⟨50, 6, 5, ⟨5, 4, 4⟩⟩ := by decide

/-- S10: 4124 is skipped. -/
theorem test_solve_skips_4124 : solveFor defaultTable 4124000 1000 = some ⟨4125, 11, 275, ⟨8, 6, 4⟩⟩ := by decide

/-- S11, S12, S13: the bound of the search. -/
theorem test_solve_bound :
    solveFor defaultTable 19456 1 = some ⟨19456, 15, 1024, ⟨10, 8, 4⟩⟩ ∧ solveFor defaultTable 19457 1 = none ∧
    solveFor defaultTable 389139999 20000 = none := by decide

/-- S4, S5 -/
theorem test_solve_zeros :
    solveFor defaultTable 16000000 0 = none ∧ solveFor defaultTable 0 500000 = some ⟨4, 0, 1, ⟨2, 1, 1⟩⟩ := by decide

/-- S20: the start is rounded up. -/
theorem test_solve_rounds_up : startRatio 100 30 = 4 := by decide

/-- T20, T25: v is exact. -/
theorem test_coarse_divisor :
    coarseDivisor 16000000 300000 = 213 ∧ coarseDivisor 4294967295 1 = 17179869180 := by decide

/-! ### One step of each command -/

/-- The outcome is a next state of which `f` holds. -/
def nextIs (r : Result) (f : State → Bool) : Bool :=
  match r with
  | .next t => f t
  | .fault _ => false
  | .refused _ => false

/-- The outcome is this fault. -/
def faultIs (r : Result) (f : Fault) : Bool :=
  match r with
  | .next _ => false
  | .fault g => g == f
  | .refused _ => false

/-- S1 through the port: RES_RATE and the four timing results. -/
theorem test_step_solve :
    nextIs (step (running (.solve 0) 0 16000000 500000 State.reset)) (fun t =>
      t.resRate == 500000 && t.resSeg1 == 8 && t.resSeg2 == 7 && t.resSjw == 4 && t.resPd == 2 &&
      t.status == 0x00 && !t.cmdBusy) = true := by decide

/-- The first command word after reset is taken. -/
theorem test_step_presents_construct :
    nextIs (step (State.reset.withFetchWord 32 0x1)) (fun t => t.cmdBusy && t.cmd == 0x1 && t.seqStep == 0) = true := by
  decide

/-- X1: ENABLE in phase RESET is refused. -/
theorem test_step_refuses_enable :
    nextIs (step (State.reset.withFetchWord 32 0x6)) (fun t => !t.cmdBusy && t.status == 0x81 && t.refused) = true := by
  decide

/-- X4: illegal comes before the phase. -/
theorem test_step_illegal_before_phase :
    nextIs (step (State.reset.withFetchWord 32 0x25)) (fun t => t.status == 0x80 && t.refused) = true := by decide

/-- T1: CONSTRUCT's first and last accesses. -/
theorem test_construct_powers :
    nextIs (exec (.construct 0) (running (.construct 0) 0 0 0 State.reset)) (fun t => (t.inst 0).powered) = true := by
  decide

theorem test_construct_ends :
    nextIs (exec (.construct 0) { running (.construct 0) 6 0 0 (with0 .configuring 0x41 0x2301) with
        loc := { Locals.idle with c := 0x41 } }) (fun t =>
      (t.inst 0).read .ctl == 0x40 && (t.inst 0).phase == .initialized && t.status == 0x00 && !t.cmdBusy) = true := by
  decide

/-- T12: SET_BIT_RATE sets INIT and CCE, IE kept. -/
theorem test_setBitRate_configures :
    nextIs (exec (.setBitRate 0) { running (.setBitRate 0) 2 50000000 1000000 (with0 .enabled 0x42 0x2301) with
        savedCtl := 0x42 }) (fun t => (t.inst 0).read .ctl == 0x43 && (t.inst 0).phase == .configuring) = true := by
  decide

/-- T20 and T21: the write of BRPE with and without INIT. -/
theorem test_changeBaudRate_brpe :
    nextIs (exec (.changeBaudRate 0) { running (.changeBaudRate 0) 3 16000000 300000 disabled with
        loc := { Locals.idle with v := 213 } }) (fun t => (t.inst 0).read .brpe == 0x5) = true ∧
    nextIs (exec (.changeBaudRate 0) { running (.changeBaudRate 0) 3 16000000 300000 constructed with
        loc := { Locals.idle with v := 213 } }) (fun t => (t.inst 0).read .brpe == 0x0) = true := by decide

/-- M1's first request: IF1CRQ reads 0x8001. -/
theorem test_init_requests_slot_1 :
    nextIs (exec (.initMsgObjects 0) (running (.initMsgObjects 0) 6 0 0 constructed)) (fun t =>
      (t.inst 0).read .if1crq == 0x8001 && t.slot == 2 && t.seqStep == 5) = true := by decide

/-- M4: the second read of BUSY = 1 under POLL_LIMIT = 2. -/
theorem test_init_times_out :
    nextIs (exec (.initMsgObjects 0) { withParams (fun p => { p with pollLimit := some 2 })
        (running (.initMsgObjects 0) 5 0 0 (pendingWith 0 0xB0 constructed)) with polls := 1 }) (fun t =>
      t.status == 0x02 && !t.cmdBusy) = true := by decide

/-- T32 -/
theorem test_enable_keeps_ie :
    nextIs (exec (.enable 0) { running (.enable 0) 1 0 0 (with0 .disabled 0x43 0x2301) with
        loc := { Locals.idle with c := 0x43 } }) (fun t =>
      (t.inst 0).read .ctl == 0x42 && (t.inst 0).phase == .enabled) = true := by decide

/-- T35 -/
theorem test_disable_keeps_ie :
    nextIs (exec (.disable 0) { running (.disable 0) 1 0 0 (with0 .enabled 0x42 0x2301) with
        loc := { Locals.idle with c := 0x42 } }) (fun t =>
      (t.inst 0).read .ctl == 0x43 && (t.inst 0).phase == .disabled) = true := by decide

/-- T40 -/
theorem test_getBitTiming_default :
    nextIs (exec (.getBitTiming 0) { running (.getBitTiming 0) 1 0 0 constructed with
        loc := { Locals.idle with b := 0x2301 } }) (fun t =>
      t.resSeg1 == 4 && t.resSeg2 == 3 && t.resSjw == 1 && t.resPd == 2) = true := by decide

/-- T51 -/
theorem test_release_disables :
    nextIs (exec (.release 0) { running (.release 0) 1 0 0 constructed with
        loc := { Locals.idle with c := 0x40 } }) (fun t =>
      (t.inst 0).read .ctl == 0x41 && (t.inst 0).phase == .released) = true := by decide

/-- R205, R206: with UNMODELLED_TRANSFER recorded and the port idle, the sequencer, and a host that presents a legal or an
illegal word, answer the fault: no STATUS is written. -/
theorem test_fault_stops_idle_port :
    (∀ s ∈ [{ constructed with faults := [.unmodelledTransfer] }],
      faultIs (step s) .unmodelledTransfer = true ∧
      faultIs (step (s.withFetchWord 32 0x6)) .unmodelledTransfer = true ∧
      faultIs (step (s.withFetchWord 32 0x22)) .unmodelledTransfer = true) := by decide

/-- R173: a completion of mask 0x0C clears bits 15 and 13 of the control field alone. -/
theorem test_handler_clears :
    transferClear ⟨0x1234, 0x5678, 0xFFFF, 0, 0⟩ = ⟨0x1234, 0x5678, 0x5FFF, 0, 0⟩ := by decide

/-- X6: a write of IF1CRQ with BUSY = 1. -/
theorem test_race_is_marked :
    (memWrite 0 0x40040020 4 2 (pendingWith 0 0xB0 constructed)).faults = [.ifRace] := by decide

/-! ### Witnesses: for each obligation with hypotheses, a state or operands that meet them -/

/-- SOLVE of S1 at its first position. -/
def solving : State := running (.solve 0) 0 16000000 500000 constructed

/-- INIT_MSG_OBJECTS at a position of its list. -/
def initAt (k : Nat) : State := running (.initMsgObjects 0) k 0 0 constructed

/-- INIT_MSG_OBJECTS at a wait, a transfer of object 1 pending. -/
def waiting (k : Nat) (limit : Option Nat) : State :=
  withParams (fun p => { p with pollLimit := limit }) (pendingWith 0 0xB0 (initAt k))

/-- INIT_MSG_OBJECTS about to make its first read, with a handler that completes every transfer at once (M1). -/
def initWithHandler : State :=
  { initAt 0 with env := (List.replicate 135 [Turn.handler 0, Turn.sequencer]).flatten ++ [Turn.handler 0] }

theorem next_of_nextIs {r : Result} {f : State → Bool} (h : nextIs r f = true) : ∃ t, r = .next t ∧ f t = true := by
  cases r with
  | next t => exact ⟨t, rfl, h⟩
  | fault _ => cases h
  | refused _ => cases h

theorem steps_of {r : Result} (h : nextIs r (fun _ => true) = true) : ∃ t, r = .next t :=
  (next_of_nextIs h).imp fun _ h => h.1

/-- Instance 0 of `with0` and every other one. -/
theorem with0_inst (p : Phase) (c b : Word) (n : InstNum) :
    (with0 p c b).inst n = if n = 0 then { CanInst.reset with
      powered := true, phase := p, regs := { defaultResetValues with ctl := c, bit := b } } else CanInst.reset := by
  unfold with0
  generalize CanInst.mk _ _ _ _ _ = x
  split
  · next h => subst h; rfl
  · next h =>
    have hn : n.toNat ≠ 0 := fun e => h (BitVec.eq_of_toNat_eq e)
    have h0 : (0 : InstNum).toNat ≠ n.toNat := fun e => hn e.symm
    simp only [State.setInst, State.inst, Vector.getElem_set_ne _ _ h0]
    simp [State.reset]

theorem reset_inst_ok : CanInst.reset.Ok where
  stored := by decide
  unpowered := by decide
  clocked := by decide
  mask := by decide
  control := trivial
  segments h := absurd h (by decide)

/-- The invariant of INIT_MSG_OBJECTS at its first position: InitEmptiesAllObjectsUnderEveryInterleaving,
InitCompletesWithAnImmediateHandler, EveryStepKeepsTheInvariant, NoFaultIsReachable. -/
theorem witness_inv : initWithHandler.Inv where
  params := wf_defaults
  insts n := by
    show (constructed.inst n).Ok
    rw [constructed, with0_inst]
    split
    · exact ⟨by decide, by decide, by decide, by decide, by unfold PhaseBits; decide,
        fun _ => by unfold LegalSegments; decide⟩
    · exact reset_inst_ok
  clean := rfl
  idle h := absurd h (by decide)
  configuring n h := by
    have e : initWithHandler.inst n = constructed.inst n := rfl
    rw [e, constructed, with0_inst] at h
    split at h <;> exact absurd h (by decide)
  running _ := ⟨.initMsgObjects 0, by decide, by
    unfold AtStep
    exact ⟨by decide, by decide, by decide, by decide, by decide, by decide⟩⟩

/-- The second clause of `State.Inv.running` at an idle state. -/
theorem witness_inv_at_reset : State.reset.Inv where
  params := wf_defaults
  insts n := by
    have : State.reset.inst n = CanInst.reset := by simp [State.inst, State.reset]
    rw [this]; exact reset_inst_ok
  clean := rfl
  idle _ := rfl
  configuring n h := by
    have : State.reset.inst n = CanInst.reset := by simp [State.inst, State.reset]
    rw [this] at h; exact absurd h (by decide)
  running h := absurd h (by decide)

set_option maxRecDepth 100000 in
/-- InitEmptiesAllObjectsUnderEveryInterleaving, InitCompletesWithAnImmediateHandler: vector M1. The one run of
many steps of these tests: no shorter run meets the hypotheses. -/
theorem witness_init_run :
    ∃ t, Sys2Proof.core.run initWithHandler.env.length initWithHandler = .next t ∧ t.Ended 0x00 ∧ t.Quiescent 0 := by
  have h : nextIs (Sys2Proof.core.run initWithHandler.env.length initWithHandler)
      (fun t => !t.cmdBusy && t.status == 0 && decide ((t.inst 0).pending = none)) = true := by decide
  obtain ⟨t, ht, hf⟩ := next_of_nextIs h
  simp only [Bool.and_eq_true, Bool.not_eq_true', beq_iff_eq, decide_eq_true_eq] at hf
  exact ⟨t, ht, ⟨hf.1.1, hf.1.2⟩, hf.1.1, hf.2⟩

theorem witness_init_hypotheses :
    initWithHandler.RunsAt 0 ∧ decode initWithHandler.params.nInst initWithHandler.cmd = .ok (.initMsgObjects 0) ∧
    ∀ e ∈ initWithHandler.env, e = .sequencer ∨ ∃ m, e = .handler m := by
  refine ⟨by decide, by decide, ?_⟩
  intro e he
  simp only [initWithHandler, List.mem_append, List.mem_flatten, List.mem_replicate, List.mem_singleton] at he
  rcases he with ⟨l, ⟨_, rfl⟩, he⟩ | rfl
  · simp only [List.mem_cons, List.not_mem_nil, or_false] at he
    rcases he with rfl | rfl
    · exact .inr ⟨0, rfl⟩
    · exact .inl rfl
  · exact .inr ⟨0, rfl⟩

/-- DecodeOfEncode -/
theorem witness_DecodeOfEncode : (Instr.release 15).wf 16 = true ∧ (Instr.construct 0).wf 1 = true := by decide

/-- EncodeOfDecode, PlacedWordRunsNext -/
theorem witness_EncodeOfDecode :
    decode 2 0x15 = .ok (.initMsgObjects 1) ∧ decode State.reset.params.nInst 0x15 = .ok (.initMsgObjects 1) := by decide

/-- LegalWordsAreExactlyTheOpcodeMap: both clauses at the ends of the opcode and instance ranges. -/
theorem witness_LegalWords :
    (∀ w ∈ [0x01, 0x11, 0x09, 0x19], w / 256 = 0 ∧ 1 ≤ w % 16 ∧ w % 16 ≤ 9 ∧ w / 16 % 16 < 2) ∧
    (∀ w ∈ [0x00, 0x0A, 0x22, 0x101], ¬ (w / 256 = 0 ∧ 1 ≤ w % 16 ∧ w % 16 ≤ 9 ∧ w / 16 % 16 < 2)) := by decide

/-- TimingFieldsRoundTrip -/
theorem witness_TimingFieldsRoundTrip : (TimingEntry.mk 2 1 1).Legal ∧ (TimingEntry.mk 16 8 4).Legal := by decide

/-- StepRunsTheDecodedCommand: its three clauses. -/
theorem witness_StepRuns :
    (constructed.cmdBusy = false ∧ decode constructed.params.nInst 0x6 = .ok (.enable 0)) ∧
    ((initAt 3).cmdBusy = true ∧ (initAt 3).env = [] ∧
      decode (initAt 3).params.nInst (initAt 3).cmd = .ok (.initMsgObjects 0)) ∧
    ({ initAt 3 with env := [.sequencer] }.env = .sequencer :: []) := by decide

/-- IllegalWordIsRefused, PresentationWritesTheHostRegisters: the premises at E7 with the port idle. -/
theorem witness_IllegalWordIsRefused :
    ({ constructed with env := [.host ⟨0x102, none, none⟩] }.env = .host ⟨0x102, none, none⟩ :: []) ∧
    constructed.Idle ∧
    ¬ ((0x102 : Word).toNat / 256 = 0 ∧ 1 ≤ (0x102 : Word).toNat % 16 ∧ (0x102 : Word).toNat % 16 ≤ 9 ∧
      (0x102 : Word).toNat / 16 % 16 < constructed.params.nInst) := by decide

/-- PhaseTableGatesCommands: both clauses, for CONSTRUCT and for ENABLE. -/
theorem witness_PhaseTable :
    State.reset.Idle ∧ (State.reset.inst 0).phase = .reset ∧ constructed.Idle ∧
    (constructed.inst 0).phase = .initialized := by decide

/-- BusyPresentationIsDiscarded -/
theorem witness_BusyPresentation :
    { initAt 0 with env := [.host ⟨0x6, none, none⟩] }.env = .host ⟨0x6, none, none⟩ :: [] ∧
    (initAt 0).cmdBusy = true := by decide

/-- HostReadsOnlyWhenIdle: both clauses. -/
theorem witness_HostReads : (initAt 0).cmdBusy = true ∧ State.reset.cmdBusy = false := by decide

/-- SearchAcceptsTheLeastRatio: found at the start (S11), found later (S21), not found (S12). -/
theorem witness_SearchAccepts :
    search 19456 1 = some (19456, 15) ∧ search 3 1 = some (4, 0) ∧ startRatio 3 1 = 3 ∧
    (search 19457 1).isSome = false ∧ startRatio 19457 1 = 19457 := by decide

/-- StartRatioIsRoundedUp: both clauses (S20, S6, S1) and the largest operands (S22). -/
theorem witness_StartRatio :
    (30 < 100 / (100 / 30)) ∧ (16000000 / 20000000 = 0) ∧
    ¬ (16000000 / 500000 = 0 ∨ 500000 < 16000000 / (16000000 / 500000)) ∧ 4294967295 < 2 ^ 32 := by decide

/-- SearchTakesTheLargestDivisor, AchievedRateIsAtMostTheTarget, SolveWritesItsResults. -/
theorem witness_SolveWritesItsResults :
    solving.RunsAt 0 ∧
    solveFor solving.params.table solving.arg0.toNat solving.arg1.toNat = some ⟨32, 12, 2, ⟨8, 7, 4⟩⟩ := by decide

/-- BitrateNotFoundChangesNothingElse: rate 0, and the first start ratio past the bound. -/
theorem witness_BitrateNotFound :
    (running (.solve 0) 0 16000000 0 constructed).RunsAt 0 ∧ (running (.solve 0) 0 19457 1 constructed).RunsAt 0 ∧
    19456 < startRatio (19457 : Word).toNat (1 : Word).toNat := by decide

/-- ConstructCompletes -/
theorem witness_ConstructCompletes :
    (running (.construct 0) 0 16000000 500000 State.reset).params.Wf ∧
    (running (.construct 0) 0 16000000 500000 State.reset).RunsAt 0 := ⟨wf_defaults, by decide⟩

/-- ConstructEntersConfiguring: its three positions. -/
theorem witness_ConstructEntersConfiguring :
    defaultParams.Wf ∧
    (∀ s ∈ [running (.construct 0) 3 0 0 (with0 .reset 0x00 0x2301)],
      s.params = defaultParams ∧ (s.inst 0).powered = true ∧ s.RunsAt 3) ∧
    ∀ k ∈ [4, 5], (running (.construct 0) k 0 0 (with0 .configuring 0x41 0x2301)).params = defaultParams ∧
      ((running (.construct 0) k 0 0 (with0 .configuring 0x41 0x2301)).inst 0).powered = true ∧
      (running (.construct 0) k 0 0 (with0 .configuring 0x41 0x2301)).RunsAt k := ⟨wf_defaults, by decide⟩

/-- ConstructIgnoresItsOperands: two executions from the presentation. -/
theorem witness_ConstructIgnoresItsOperands : ∃ t, execRun (.construct 0) 2 State.reset = .next t := by
  exact steps_of (by decide)

/-- SetBitRateCompletes, CommittedTimingReadsBack (its first part). -/
theorem witness_SetBitRateCompletes :
    (running (.setBitRate 0) 0 80000000 10000 disabled).params.Wf ∧
    (running (.setBitRate 0) 0 80000000 10000 disabled).RunsAt 0 ∧
    ((running (.setBitRate 0) 0 80000000 10000 disabled).inst 0).powered = true ∧
    solveFor disabled.params.table 80000000 10000 = some ⟨8000, 12, 500, ⟨8, 7, 4⟩⟩ := ⟨wf_defaults, by decide⟩

/-- CommittedTimingReadsBack: a later state with GET_BIT_TIMING at its first position, and the registers left. -/
theorem witness_CommittedTimingReadsBack :
    ∃ t, execRun (.setBitRate 0) 6 (running (.setBitRate 0) 0 80000000 10000 disabled) = .next t ∧
      t.params = disabled.params ∧ (running (.getBitTiming 0) 0 0 0 t).RunsAt 0 ∧
      ((running (.getBitTiming 0) 0 0 0 t).inst 0).powered = true ∧
      ((running (.getBitTiming 0) 0 0 0 t).inst 0).read .bit = (t.inst 0).read .bit ∧
      ((running (.getBitTiming 0) 0 0 0 t).inst 0).read .brpe = (t.inst 0).read .brpe := by
  have h : nextIs (execRun (.setBitRate 0) 6 (running (.setBitRate 0) 0 80000000 10000 disabled)) (fun t =>
      t.params == disabled.params && decide (t.faults = []) && (t.inst 0).powered) = true := by decide
  obtain ⟨t, ht, hf⟩ := next_of_nextIs h
  simp only [Bool.and_eq_true, beq_iff_eq, decide_eq_true_eq] at hf
  exact ⟨t, ht, hf.1.1, ⟨rfl, hf.1.2, rfl⟩, hf.2, rfl, rfl⟩

/-- SetBitRateEntersConfiguring -/
theorem witness_SetBitRateEntersConfiguring :
    let s := { running (.setBitRate 0) 2 0 0 disabled with savedCtl := 0x41 }
    s.params.Wf ∧ s.RunsAt 2 ∧ (s.inst 0).powered = true ∧ s.savedCtl = (s.inst 0).read .ctl :=
  ⟨wf_defaults, by decide⟩

/-- SetBitRateFailureTouchesNoRegister, ErrorsComeOnlyFromTheirCommands (0x01): T14. -/
theorem witness_SetBitRateFailure :
    (running (.setBitRate 0) 0 16000000 0 constructed).cmdBusy = true ∧
    ∃ t, exec (.setBitRate 0) (running (.setBitRate 0) 0 16000000 0 constructed) = .next t ∧ t.cmdBusy = false ∧
      t.status = 0x01 := ⟨by decide, _, rfl, by decide, by decide⟩

/-- ChangeBaudRateCompletes: both settings of the write protection, and of INIT. -/
theorem witness_ChangeBaudRateCompletes :
    (∀ s ∈ [running (.changeBaudRate 0) 0 16000000 300000 disabled,
        running (.changeBaudRate 0) 0 16000000 300000 constructed],
      s.RunsAt 0 ∧ (s.inst 0).powered = true ∧ s.arg1 ≠ 0 ∧ s.params.writeProtect = true) ∧
    ((disabled.inst 0).read .ctl).getLsbD 0 = true ∧ ((disabled.inst 0).read .ctl).getLsbD 6 = true ∧
    ((constructed.inst 0).read .ctl).getLsbD 0 = false ∧
    { defaultParams with writeProtect := false }.Wf := by
  refine ⟨by decide, by decide, by decide, by decide, ?_⟩
  constructor <;> decide

/-- ChangeBaudRateClearsIeFirst -/
theorem witness_ChangeBaudRateClearsIeFirst :
    let s := { running (.changeBaudRate 0) 2 0 0 (with0 .enabled 0x42 0x2301) with
      loc := { Locals.idle with c := 0x42 } }
    s.params.Wf ∧ s.RunsAt 2 ∧ (s.inst 0).powered = true ∧ s.loc.c = (s.inst 0).read .ctl :=
  ⟨wf_defaults, by decide⟩

/-- EnableCompletes, DisableCompletes, GetBitTimingCompletes, and ReleaseCompletes under each TEARDOWN. -/
theorem witness_ShortCommands :
    (∀ i ∈ [Instr.enable 0, .disable 0, .getBitTiming 0, .release 0],
      (running i 0 0 0 constructed).RunsAt 0 ∧ ((running i 0 0 0 constructed).inst 0).powered = true) ∧
    constructed.params.Wf ∧ { defaultParams with teardown := .leave }.Wf ∧
    { defaultParams with teardown := .disable }.Wf ∧ { defaultParams with teardown := .powerOff }.Wf := by
  refine ⟨by decide, wf_defaults, ?_, ?_, ?_⟩ <;> constructor <;> decide

/-- EnableAndDisableAreIdempotent: the first runs of both clauses. -/
theorem witness_Idempotent :
    (∃ t, execRun (.disable 0) 2 (running (.disable 0) 0 0 0 constructed) = .next t) ∧
    ∃ t, execRun (.enable 0) 2 (running (.enable 0) 0 0 0 constructed) = .next t :=
  ⟨steps_of (by decide), steps_of (by decide)⟩

/-- PassSetupWrites, WaitPollsBusy (first clause): each position, no transfer pending. -/
theorem witness_PassSetupWrites :
    ∀ k ∈ [0, 1, 2, 3, 4, 5, 7, 8, 9], (initAt k).RunsAt k ∧ ((initAt k).inst 0).powered = true ∧
      ((initAt k).inst 0).pending = none := by decide

/-- SlotRequestStartsItsTransfer: slots 1, 31 and 32 of both passes. -/
theorem witness_SlotRequest :
    ∀ k ∈ [6, 10], ∀ m ∈ [1, 31, 32], { initAt k with slot := m }.RunsAt k ∧
      ({ initAt k with slot := m }.inst 0).powered = true ∧ ({ initAt k with slot := m }.inst 0).pending = none := by
  decide

/-- WaitPollsBusy (second and third clauses), TimeoutOnTheLimitedRead, StuckHandlerHangsTheCommand. -/
theorem witness_Waits :
    (∀ k ∈ [0, 5, 7, 9], ∀ limit ∈ [none, some 1, some 2], (waiting k limit).RunsAt k ∧
      ((waiting k limit).inst 0).powered = true ∧ ((waiting k limit).inst 0).pending ≠ none ∧
      (waiting k limit).polls = 0 ∧ (waiting k limit).params.pollLimit = limit) ∧
    { defaultParams with pollLimit := some 1 }.Wf ∧ { defaultParams with pollLimit := some 2 }.Wf := by
  refine ⟨by decide, ?_, ?_⟩ <;> constructor <;> decide

/-- HandlerCompletesTheTransfer: nothing pending; a pending transfer under each of the two masks and another one. -/
theorem witness_Handler : (constructed.inst 0).pending = none ∧ constructed.faults = [] := by decide

theorem witness_Handler_pending (k : ObjIdx) (m : Word) :
    (pendingWith k m constructed).faults = [] ∧ ((pendingWith k m constructed).inst 0).pending = some k ∧
    ((pendingWith k m constructed).inst 0).read .if1cmsk = m &&& 0xFF := ⟨rfl, rfl, rfl⟩

theorem witness_Handler_masks :
    (0xB0 : Word) &&& 0xFF = 0xB0 ∧ (0x0C : Word) &&& 0xFF = 0x0C ∧ (0x0D : Word) &&& 0xFF = 0x0D := by decide

/-- ReadReturnsTheLastWrite, TimingWritesNeedInitAndCce: write protection on, both settings of INIT; and off. -/
theorem witness_RegisterWrites :
    constructed.params.Wf ∧ constructed.params.writeProtect = true ∧ (constructed.inst 0).powered = true ∧
    (disabled.inst 0).powered = true ∧ ((disabled.inst 0).read .ctl).getLsbD 0 = true ∧
    ((disabled.inst 0).read .ctl).getLsbD 6 = true ∧ ((constructed.inst 0).read .ctl).getLsbD 0 = false :=
  ⟨wf_defaults, by decide⟩

/-- RequestWriteStartsATransfer (MNUM 0, 1, 32, 33, and a transfer pending), InterfaceWriteDuringTransferIsARace. -/
theorem witness_Requests :
    (constructed.inst 0).pending = none ∧ (constructed.inst 0).powered = true ∧ constructed.faults = [] ∧
    ((waiting 5 none).inst 0).pending ≠ none ∧ ((waiting 5 none).inst 0).powered = true ∧
    (waiting 5 none).faults = [] ∧
    (∀ v ∈ [1, 32], 1 ≤ (BitVec.ofNat 32 v).toNat % 64 ∧ (BitVec.ofNat 32 v).toNat % 64 ≤ 32) ∧
    (∀ v ∈ [0, 33, 64], ¬ (1 ≤ (BitVec.ofNat 32 v).toNat % 64 ∧ (BitVec.ofNat 32 v).toNat % 64 ≤ 32)) := by decide

/-- UndefinedAccessFaults: an unpowered instance; a narrow, a misaligned and an unlisted access. -/
theorem witness_UndefinedAccess :
    (State.reset.inst 0).powered = false ∧ State.reset.faults = [] ∧ (constructed.inst 0).powered = true ∧
    constructed.faults = [] ∧ (0x40040001 : Word).toNat % 4 ≠ 0 ∧
    ∀ r ∈ Reg.all, (0x40040004 : Word) ≠ constructed.regAddr 0 r := by decide

/-- RecordedFaultStopsTheSequencer: a running command, an idle port, and the one move that goes on. -/
theorem witness_RecordedFault :
    { initAt 5 with faults := [.ifRace] }.faults = Fault.ifRace :: [] ∧
    { initAt 5 with faults := [.ifRace] }.cmdBusy = true ∧
    { constructed with faults := [.unmodelledTransfer] }.faults = Fault.unmodelledTransfer :: [] ∧
    { constructed with faults := [.unmodelledTransfer] }.cmdBusy = false ∧
    ∃ t, step { initAt 5 with faults := [.ifRace], env := [.host ⟨0x6, none, none⟩] } = .next t :=
  ⟨rfl, rfl, rfl, rfl, steps_of (by decide)⟩

/-- BusyReadsThePendingTransfer: both values of BUSY. -/
theorem witness_BusyReads :
    ((constructed.inst 0).read .if1crq).getLsbD 15 = false ∧
    (((waiting 5 none).inst 0).read .if1crq).getLsbD 15 = true := by decide

/-- EveryStepKeepsTheInvariant, MarksGrowAndParametersStay, StatusTakesOnlyTheFiveCodes, InstancesAreIndependent: a
next state of a running command, and a refused one. -/
theorem witness_Steps :
    (∃ t, step initWithHandler = .next t) ∧ (∃ t, exec (.initMsgObjects 0) (initAt 1) = .next t) ∧
    (∃ t, handlerMove 0 (waiting 5 none) = .next t) ∧
    ∃ t, step solving = .next t ∧ solving.cmdBusy = true ∧ t.cmdBusy = false := by
  refine ⟨steps_of (by decide), steps_of (by decide), steps_of (by decide), ?_⟩
  have h : nextIs (step solving) (fun t => !t.cmdBusy) = true := by decide
  obtain ⟨t, ht, hf⟩ := next_of_nextIs h
  exact ⟨t, ht, rfl, by simpa using hf⟩

/-- ErroredCommandWritesNoResult: S1 changes a result. -/
theorem witness_ResultChanges : ∃ t, exec (.solve 0) solving = .next t ∧ ¬ SameResults solving t := by
  have h : nextIs (exec (.solve 0) solving) (fun t => decide (¬ SameResults solving t)) = true := by decide
  obtain ⟨t, ht, hf⟩ := next_of_nextIs h
  exact ⟨t, ht, of_decide_eq_true hf⟩

/-- OnlyTheSequencerWritesRegisters: a host's and a handler's move. -/
theorem witness_OtherAgentsMoves :
    (∃ t, step { constructed with env := [.host ⟨0x6, none, none⟩] } = .next t) ∧
    ∃ t, step { waiting 5 none with env := [.handler 0] } = .next t :=
  ⟨steps_of (by decide), steps_of (by decide)⟩

/-- ErrorsComeOnlyFromTheirCommands (0x02) -/
theorem witness_Timeout :
    ∃ t, exec (.initMsgObjects 0) (waiting 5 (some 1)) = .next t ∧ t.cmdBusy = false ∧ t.status = 0x02 := by
  have h : nextIs (exec (.initMsgObjects 0) (waiting 5 (some 1))) (fun t => !t.cmdBusy && t.status == 0x02) = true := by
    decide
  obtain ⟨t, ht, hf⟩ := next_of_nextIs h
  simp only [Bool.and_eq_true, Bool.not_eq_true', beq_iff_eq] at hf
  exact ⟨t, ht, hf.1, hf.2⟩

end Sys2Proof.Tests
end

section
/-! SUPPORT. The moves of the agents, said once per mover and outcome (spec/00_scope.md R6), and the statement about
what a step runs. -/

namespace Sys2Proof.Machine

/-! ### The mover that `env` names -/

theorem step_of_env_nil {s : State} (h : s.env = []) : step s = sequencerMove s := by
  simp [step, nextMove, h]

theorem step_of_env_host {s : State} {c : HostCmd} {rest : List Turn} (h : s.env = .host c :: rest) :
    step s = hostMove c (s.setEnv rest) := by
  simp [step, nextMove, h]

theorem step_of_env_sequencer {s : State} {rest : List Turn} (h : s.env = .sequencer :: rest) :
    step s = sequencerMove (s.setEnv rest) := by
  simp [step, nextMove, h]

/-! ### The moves, with a fault recorded and without -/

/-- A recorded fault stops every command, presented or running (spec/60_exceptions.md R205). -/
theorem exec_faulted {s : State} {f : Fault} {fs : List Fault} (hf : s.faults = f :: fs) (i : Instr) :
    exec i s = .fault f := by
  cases i <;> exact command_faulted hf

/-- The port is idle and the word legal. A recorded fault stops the host's move and the command's execution alike, so
the equation needs no hypothesis about faults. -/
theorem hostMove_eq_exec {s : State} {h : HostCmd} {i : Instr} (hb : s.cmdBusy = false)
    (hd : decode s.params.nInst h.word = .ok i) : hostMove h s = exec i (s.latch h) := by
  cases hf : s.faults with
  | nil => simp [hostMove, hb, hf, hd]
  | cons f fs =>
    have hstop : exec i (s.latch h) = .fault f := exec_faulted ((latch_faults s h).trans hf) i
    simp [hostMove, hb, hf, hstop]

/-- A command is running. As for the host's move, a recorded fault stops both sides. -/
theorem sequencerMove_eq_exec {s : State} {i : Instr} (hb : s.cmdBusy = true)
    (hd : decode s.params.nInst s.cmd = .ok i) : sequencerMove s = exec i s := by
  cases hf : s.faults with
  | nil => simp [sequencerMove, hb, hf, hd]
  | cons f fs =>
    have hstop : exec i s = .fault f := exec_faulted hf i
    simp [sequencerMove, hf, hstop]

/-! ### What a step runs -/

/-- Settles O7: `env` names the mover, and each mover's move is the execution of the command it decodes. -/
theorem stepRunsTheDecodedCommand : Obligations.StepRunsTheDecodedCommand := by
  refine fun s i => ⟨fun h rest he hb hd => ?host, fun rest he hb hd => ?sequencer, fun he hb hd => ?unnamed⟩
  case host => exact (step_of_env_host he).trans (hostMove_eq_exec (s := s.setEnv rest) hb hd)
  case sequencer => exact (step_of_env_sequencer he).trans (sequencerMove_eq_exec (s := s.setEnv rest) hb hd)
  case unnamed => exact (step_of_env_nil he).trans (sequencerMove_eq_exec hb hd)

end Sys2Proof.Machine
end

section
/-! SUPPORT. The nine commands as one shape, what a micro-operation can do, and what an agent's move can do: one
inversion lemma per operation, from which the statements about every step follow. -/

namespace Sys2Proof.Machine

/-! ### Every command is a gate, an acceptance and a list of micro-operations -/

/-- The phases in which a command is legal (spec/60_exceptions.md R204). -/
def gateOf : Instr → Phase → Bool
  | .construct _ => Phase.allowsConstruct
  | .solve _ => Phase.allowsSolve
  | _ => Phase.isLive

/-- What the acceptance of a command does (R204; log 9). -/
def takeOf : Instr → State → State
  | .initMsgObjects _ => State.acceptWaiting
  | _ => State.accept

/-- The micro-operations of a command. -/
def microOf : Instr → State → Result
  | .construct n => constructMicro n
  | .solve _ => solveMicro
  | .setBitRate n => setBitRateMicro n
  | .changeBaudRate n => changeBaudRateMicro n
  | .initMsgObjects n => initMsgObjectsMicro n
  | .enable n => enableMicro n
  | .disable n => disableMicro n
  | .getBitTiming n => getBitTimingMicro n
  | .release n => releaseMicro n

theorem exec_eq_command (i : Instr) (s : State) :
    exec i s = command (gateOf i) (takeOf i) i.inst (microOf i) s := by
  cases i <;> rfl

theorem takeOf_eq (i : Instr) (s : State) : takeOf i s = s.accept ∨ takeOf i s = s.acceptWaiting := by
  cases i
  case initMsgObjects => exact .inr rfl
  all_goals exact .inl rfl

theorem exec_running {s : State} (hb : s.cmdBusy = true) (hf : s.faults = []) (i : Instr) :
    exec i s = microOf i s := by
  rw [exec_eq_command, command_running hb hf]

/-- A command presented to the idle port is taken or refused, by its phase gate. -/
theorem exec_presented {s : State} (hb : s.cmdBusy = false) (hf : s.faults = []) (i : Instr) :
    exec i s = .next (if gateOf i (s.inst i.inst).phase then takeOf i s else s.refuseState) := by
  rw [exec_eq_command]
  cases hg : gateOf i (s.inst i.inst).phase
  · rw [command_refused hb hf hg]; rfl
  · rw [command_taken hb hf hg]; rfl

theorem faults_of_exec {i : Instr} {s t : State} (h : exec i s = .next t) : s.faults = [] := by
  cases hf : s.faults with
  | nil => rfl
  | cons f fs => rw [exec_faulted hf] at h; cases h

/-! ### What a register access of a micro-operation can do -/

theorem mem_recordFault {s : State} {f g : Fault} (h : g ∈ s.faults) : g ∈ (s.recordFault f).faults := by
  unfold State.recordFault
  split
  · exact h
  · exact List.mem_append_left _ h

theorem recordFault_faults_ne_nil (s : State) (f : Fault) : (s.recordFault f).faults ≠ [] := by
  unfold State.recordFault
  split
  · next hmem => exact List.ne_nil_of_mem hmem
  · simp

/-- A read goes on with a value, or records a fault. -/
theorem withRead_cases {n : InstNum} {r : Reg} {k : Word → State → State} {s t : State}
    (h : withRead n r k s = .next t) : (∃ v, t = k v s) ∨ ∃ f, t = s.recordFault f := by
  unfold withRead at h
  split at h <;> injection h with h
  · exact .inl ⟨_, h.symm⟩
  · exact .inr ⟨_, h.symm⟩

/-- A write changes its own peripheral, and records a fault or does not. -/
theorem memWrite_cases (n : InstNum) (a : Word) (w : Nat) (v : Word) (s : State) :
    ∃ x, memWrite n a w v s = s.setInst n x ∨ ∃ f, memWrite n a w v s = (s.setInst n x).recordFault f := by
  unfold memWrite
  split
  · next r _ =>
    refine ⟨((s.inst n).write s.params.writeProtect r v).1, ?_⟩
    cases hw : ((s.inst n).write s.params.writeProtect r v).2 with
    | none => exact .inl (by simp [State.recordFault?, hw])
    | some f => exact .inr ⟨f, by simp [State.recordFault?, hw]⟩
  · next f _ => exact ⟨s.inst n, .inr ⟨f, by rw [setInst_inst]⟩⟩

/-- A micro-operation's write goes on from its own peripheral changed, or records a fault. -/
theorem withWrite_cases {n : InstNum} {r : Reg} {v : Word} {k : State → State} {s t : State} (hs : s.faults = [])
    (h : withWrite n r v k s = .next t) :
    (∃ x, t = k (s.setInst n x)) ∨ ∃ x f, t = (s.setInst n x).recordFault f := by
  obtain ⟨x, hx | ⟨f, hx⟩⟩ := memWrite_cases n (s.regAddr n r) 4 v s
  · simp only [withWrite, hx, setInst_faults, hs, if_true] at h
    injection h with h
    exact .inl ⟨x, h.symm⟩
  · simp only [withWrite, hx, recordFault_faults_ne_nil, if_false] at h
    injection h with h
    exact .inr ⟨x, f, h.symm⟩

/-! ### What a micro-operation can do -/

/-- What a micro-operation that does not end its command leaves alone: the parameters, the host port, the marks but for
a fault it adds, the moves to come, the other peripherals, and that the command runs. -/
def GoesOn (n : InstNum) (s t : State) : Prop :=
  (t.params = s.params ∧ t.cmd = s.cmd ∧ t.arg0 = s.arg0 ∧ t.arg1 = s.arg1 ∧ t.refused = s.refused ∧
    t.env = s.env) ∧
  (∀ f ∈ s.faults, f ∈ t.faults) ∧ SameOthers n s t ∧ SameResults s t ∧ t.cmdBusy = s.cmdBusy ∧ t.status = s.status

/-- What every micro-operation of a command can do: beyond what `GoesOn` allows it can end the command, and only with OK
can it change a result (spec/10_state.md R41, R42; spec/60_exceptions.md R200, R207, R213). -/
structure MicroFrame (n : InstNum) (s t : State) : Prop where
  params : t.params = s.params
  cmd : t.cmd = s.cmd
  args : t.arg0 = s.arg0 ∧ t.arg1 = s.arg1
  refused : t.refused = s.refused
  env : t.env = s.env
  faults : ∀ f ∈ s.faults, f ∈ t.faults
  others : SameOthers n s t
  results : SameResults s t ∨ t.Ended 0x00
  status : t.cmdBusy = s.cmdBusy ∧ t.status = s.status ∨
    t.cmdBusy = false ∧ t.loc = Locals.idle ∧ (t.status = 0x00 ∨ t.status = 0x01 ∨ t.status = 0x02)

theorem GoesOn.microFrame {n : InstNum} {s t : State} (h : GoesOn n s t) : MicroFrame n s t := by
  obtain ⟨⟨hparams, hcmd, harg0, harg1, hrefused, henv⟩, hfaults, hothers, hresults, hbusy, hstatus⟩ := h
  exact ⟨hparams, hcmd, ⟨harg0, harg1⟩, hrefused, henv, hfaults, hothers, .inl hresults, .inl ⟨hbusy, hstatus⟩⟩

/-- The end of a command with an error or with no result to write. -/
theorem GoesOn.finish {n : InstNum} {s u : State} {c : StatusByte} (h : GoesOn n s u)
    (hc : c = 0x00 ∨ c = 0x01 ∨ c = 0x02) : MicroFrame n s (u.finish c) := by
  obtain ⟨⟨hparams, hcmd, harg0, harg1, hrefused, henv⟩, hfaults, hothers, hresults, -, -⟩ := h
  exact ⟨hparams, hcmd, ⟨harg0, harg1⟩, hrefused, henv, hfaults, hothers, .inl hresults, .inr ⟨rfl, rfl, hc⟩⟩

theorem GoesOn.finish_ok {n : InstNum} {s u : State} (h : GoesOn n s u) : MicroFrame n s (u.finish statusOk) :=
  h.finish (.inl rfl)

theorem MicroFrame.setResRate_finish {n : InstNum} {s u : State} (h : MicroFrame n s (u.finish statusOk)) (v : Word) :
    MicroFrame n s ((u.setResRate v).finish statusOk) :=
  ⟨h.params, h.cmd, h.args, h.refused, h.env, h.faults, h.others, .inr ⟨rfl, rfl⟩, .inr ⟨rfl, rfl, .inl rfl⟩⟩

theorem MicroFrame.setResTiming_finish {n : InstNum} {s u : State} (h : MicroFrame n s (u.finish statusOk))
    (a b c d : ResField) : MicroFrame n s ((u.setResTiming a b c d).finish statusOk) :=
  ⟨h.params, h.cmd, h.args, h.refused, h.env, h.faults, h.others, .inr ⟨rfl, rfl⟩, .inr ⟨rfl, rfl, .inl rfl⟩⟩

theorem goesOn_refl (n : InstNum) (s : State) : GoesOn n s s :=
  ⟨⟨rfl, rfl, rfl, rfl, rfl, rfl⟩, fun _ hf => hf, fun _ _ => rfl, ⟨rfl, rfl, rfl, rfl, rfl⟩, rfl, rfl⟩

theorem GoesOn.setInst {n : InstNum} {s u : State} (h : GoesOn n s u) (x : CanInst) : GoesOn n s (u.setInst n x) := by
  obtain ⟨hport, hfaults, hothers, hrest⟩ := h
  exact ⟨hport, hfaults, fun m hm => (inst_setInst_ne u x hm).trans (hothers m hm), hrest⟩

theorem goesOn_setInst (n : InstNum) (s : State) (x : CanInst) : GoesOn n s (s.setInst n x) :=
  (goesOn_refl n s).setInst x

theorem goesOn_periphReset (n : InstNum) (s : State) : GoesOn n s (periphReset n s) :=
  ⟨⟨rfl, rfl, rfl, rfl, rfl, rfl⟩, fun _ hf => hf, fun _ hm => periphReset_inst_ne s hm,
    ⟨rfl, rfl, rfl, rfl, rfl⟩, rfl, rfl⟩

theorem goesOn_powerOff (n : InstNum) (s : State) : GoesOn n s (powerOff n s) :=
  ⟨⟨rfl, rfl, rfl, rfl, rfl, rfl⟩, fun _ hf => hf, fun _ hm => powerOff_inst_ne s hm,
    ⟨rfl, rfl, rfl, rfl, rfl⟩, rfl, rfl⟩

theorem GoesOn.setPhase {n : InstNum} {s u : State} (h : GoesOn n s u) (p : Phase) : GoesOn n s (u.setPhase n p) :=
  h.setInst _

theorem GoesOn.recordFault {n : InstNum} {s u : State} (h : GoesOn n s u) (f : Fault) :
    GoesOn n s (u.recordFault f) := by
  obtain ⟨hport, hfaults, hrest⟩ := h
  exact ⟨hport, fun g hg => mem_recordFault (hfaults g hg), hrest⟩

theorem GoesOn.advance {n : InstNum} {s u : State} (h : GoesOn n s u) : GoesOn n s u.advance := h
theorem GoesOn.setLoc {n : InstNum} {s u : State} (h : GoesOn n s u) (l : Locals) : GoesOn n s (u.setLoc l) := h
theorem GoesOn.setSavedCtl {n : InstNum} {s u : State} (h : GoesOn n s u) (v : Word) : GoesOn n s (u.setSavedCtl v) := h
theorem GoesOn.setPolls {n : InstNum} {s u : State} (h : GoesOn n s u) (k : Nat) : GoesOn n s (u.setPolls k) := h
theorem GoesOn.setSlot {n : InstNum} {s u : State} (h : GoesOn n s u) (k : Nat) : GoesOn n s (u.setSlot k) := h
theorem GoesOn.enterWait {n : InstNum} {s u : State} (h : GoesOn n s u) (k : Nat) : GoesOn n s (u.enterWait k) := h
theorem GoesOn.startPass {n : InstNum} {s u : State} (h : GoesOn n s u) (p : Pass) (k : Nat) :
    GoesOn n s (u.startPass p k) := h

theorem withRead_frame {n : InstNum} {r : Reg} {k : Word → State → State} {s t : State}
    (h : withRead n r k s = .next t) (hk : ∀ v, MicroFrame n s (k v s)) : MicroFrame n s t := by
  obtain ⟨v, rfl⟩ | ⟨f, rfl⟩ := withRead_cases h
  · exact hk v
  · exact ((goesOn_refl n s).recordFault f).microFrame

theorem withWrite_frame {n : InstNum} {r : Reg} {v : Word} {k : State → State} {s t : State} (hs : s.faults = [])
    (h : withWrite n r v k s = .next t) (hk : ∀ u, GoesOn n s u → MicroFrame n s (k u)) : MicroFrame n s t := by
  obtain ⟨x, rfl⟩ | ⟨x, f, rfl⟩ := withWrite_cases hs h
  · exact hk _ (goesOn_setInst n s x)
  · exact ((goesOn_setInst n s x).recordFault f).microFrame

/-- A wait goes on, counts a read, or ends the command with ERR_TIMEOUT (spec/42_message_objects.md R171, R179). -/
theorem waitNotBusy_frame {n : InstNum} {s t : State} (h : waitNotBusy n s = .next t) : MicroFrame n s t := by
  refine withRead_frame h fun v => ?_
  have hs := goesOn_refl n s
  unfold pollOn
  dsimp only
  split
  · split
    · exact (hs.setPolls _).finish (.inr (.inr rfl))
    · exact (hs.setPolls _).microFrame
  · exact hs.advance.microFrame

/-- The slot loop goes to the next slot's wait or leaves the pass. -/
theorem GoesOn.nextSlot_frame {n : InstNum} {s u : State} (h : GoesOn n s u) (w : Nat) {after : State → State}
    (hafter : ∀ u', GoesOn n s u' → MicroFrame n s (after u')) : MicroFrame n s (u.nextSlot w after) := by
  unfold State.nextSlot
  dsimp only
  split
  · exact ((h.setSlot _).enterWait w).microFrame
  · exact hafter _ (h.setSlot _)

theorem constructMicro_frame {n : InstNum} {s t : State} (hs : s.faults = []) (h : constructMicro n s = .next t) :
    MicroFrame n s t := by
  unfold constructMicro at h
  split at h
  · cases h; exact (goesOn_setInst n s _).advance.microFrame
  · cases h; exact (goesOn_periphReset n s).advance.microFrame
  · exact withWrite_frame hs h fun u hu => hu.advance.microFrame
  · exact withWrite_frame hs h fun u hu => (hu.setPhase _).advance.microFrame
  · exact withWrite_frame hs h fun u hu => hu.advance.microFrame
  · exact withRead_frame h fun v => ((goesOn_refl n s).setLoc _).advance.microFrame
  · exact withWrite_frame hs h fun u hu => (hu.setPhase _).finish_ok
  · cases h

theorem solveMicro_frame {s t : State} (n : InstNum) (h : solveMicro s = .next t) : MicroFrame n s t := by
  have hs := goesOn_refl n s
  unfold solveMicro at h
  split at h
  · split at h <;> cases h
    · exact hs.finish (.inr (.inl rfl))
    · exact (hs.finish_ok.setResRate_finish _).setResTiming_finish ..
  · cases h

theorem setBitRateMicro_frame {n : InstNum} {s t : State} (hs : s.faults = []) (h : setBitRateMicro n s = .next t) :
    MicroFrame n s t := by
  have hrefl := goesOn_refl n s
  unfold setBitRateMicro at h
  split at h
  · split at h <;> cases h
    · exact hrefl.finish (.inr (.inl rfl))
    · exact (hrefl.setLoc _).advance.microFrame
  · exact withRead_frame h fun v => (hrefl.setSavedCtl v).advance.microFrame
  · exact withWrite_frame hs h fun u hu => ((hu.setPhase _).setLoc _).advance.microFrame
  · exact withWrite_frame hs h fun u hu => hu.advance.microFrame
  · exact withWrite_frame hs h fun u hu => hu.advance.microFrame
  · exact withWrite_frame hs h fun u hu => (hu.setPhase _).finish_ok.setResRate_finish _
  · cases h

theorem changeBaudRateMicro_frame {n : InstNum} {s t : State} (hs : s.faults = [])
    (h : changeBaudRateMicro n s = .next t) : MicroFrame n s t := by
  have hrefl := goesOn_refl n s
  unfold changeBaudRateMicro at h
  split at h
  · split at h <;> cases h
    · exact hrefl.finish (.inr (.inl rfl))
    · exact (hrefl.setLoc _).advance.microFrame
  · exact withRead_frame h fun v => (hrefl.setLoc _).advance.microFrame
  · exact withWrite_frame hs h fun u hu => hu.advance.microFrame
  · exact withWrite_frame hs h fun u hu => hu.advance.microFrame
  · exact withRead_frame h fun v => (hrefl.setLoc _).advance.microFrame
  · exact withWrite_frame hs h fun u hu => hu.finish_ok
  · cases h

theorem initMsgObjectsMicro_frame {n : InstNum} {s t : State} (hs : s.faults = [])
    (h : initMsgObjectsMicro n s = .next t) : MicroFrame n s t := by
  unfold initMsgObjectsMicro at h
  split at h
  · exact waitNotBusy_frame h
  · exact withWrite_frame hs h fun u hu => hu.advance.microFrame
  · exact withWrite_frame hs h fun u hu => hu.advance.microFrame
  · exact withWrite_frame hs h fun u hu => hu.advance.microFrame
  · exact withWrite_frame hs h fun u hu => (hu.startPass _ _).microFrame
  · exact waitNotBusy_frame h
  · exact withWrite_frame hs h fun u hu => hu.nextSlot_frame _ fun u' hu' => (hu'.enterWait _).microFrame
  · exact waitNotBusy_frame h
  · exact withWrite_frame hs h fun u hu => (hu.startPass _ _).microFrame
  · exact waitNotBusy_frame h
  · exact withWrite_frame hs h fun u hu => hu.nextSlot_frame _ fun u' hu' => hu'.finish_ok
  · cases h

theorem enableMicro_frame {n : InstNum} {s t : State} (hs : s.faults = []) (h : enableMicro n s = .next t) :
    MicroFrame n s t := by
  unfold enableMicro at h
  split at h
  · exact withRead_frame h fun v => ((goesOn_refl n s).setLoc _).advance.microFrame
  · exact withWrite_frame hs h fun u hu => (hu.setPhase _).finish_ok
  · cases h

theorem disableMicro_frame {n : InstNum} {s t : State} (hs : s.faults = []) (h : disableMicro n s = .next t) :
    MicroFrame n s t := by
  unfold disableMicro at h
  split at h
  · exact withRead_frame h fun v => ((goesOn_refl n s).setLoc _).advance.microFrame
  · exact withWrite_frame hs h fun u hu => (hu.setPhase _).finish_ok
  · cases h

theorem getBitTimingMicro_frame {n : InstNum} {s t : State} (h : getBitTimingMicro n s = .next t) :
    MicroFrame n s t := by
  have hrefl := goesOn_refl n s
  unfold getBitTimingMicro at h
  split at h
  · exact withRead_frame h fun v => (hrefl.setLoc _).advance.microFrame
  · exact withRead_frame h fun v => hrefl.finish_ok.setResTiming_finish ..
  · cases h

theorem releaseMicro_frame {n : InstNum} {s t : State} (hs : s.faults = []) (h : releaseMicro n s = .next t) :
    MicroFrame n s t := by
  have hrefl := goesOn_refl n s
  cases htd : s.params.teardown <;> simp only [releaseMicro, htd] at h
  case leave =>
    unfold releaseLeaveMicro at h
    split at h <;> cases h
    exact (hrefl.setPhase _).finish_ok
  case disable =>
    unfold releaseDisableMicro at h
    split at h
    · exact withRead_frame h fun v => (hrefl.setLoc _).advance.microFrame
    · exact withWrite_frame hs h fun u hu => (hu.setPhase _).finish_ok
    · cases h
  case powerOff =>
    unfold releasePowerOffMicro at h
    split at h <;> cases h
    exact ((goesOn_powerOff n s).setPhase _).finish_ok

theorem micro_frame {i : Instr} {s t : State} (hs : s.faults = []) (h : microOf i s = .next t) :
    MicroFrame i.inst s t := by
  cases i with
  | construct n => exact constructMicro_frame hs h
  | solve n => exact solveMicro_frame n h
  | setBitRate n => exact setBitRateMicro_frame hs h
  | changeBaudRate n => exact changeBaudRateMicro_frame hs h
  | initMsgObjects n => exact initMsgObjectsMicro_frame hs h
  | enable n => exact enableMicro_frame hs h
  | disable n => exact disableMicro_frame hs h
  | getBitTiming n => exact getBitTimingMicro_frame h
  | release n => exact releaseMicro_frame hs h

/-! ### What an execution and an agent's move can do -/

/-- A presentation only takes or refuses the command; a running command does a micro-operation. -/
theorem exec_cases {i : Instr} {s t : State} (h : exec i s = .next t) :
    s.cmdBusy = false ∧ (t = s.accept ∨ t = s.acceptWaiting ∨ t = s.refuseState) ∨
    s.cmdBusy = true ∧ MicroFrame i.inst s t := by
  have hf := faults_of_exec h
  cases hb : s.cmdBusy with
  | true => exact .inr ⟨rfl, micro_frame hf ((exec_running hb hf i).symm.trans h)⟩
  | false =>
    rw [exec_presented hb hf] at h
    injection h with h
    subst h
    split
    · exact .inl ⟨rfl, (takeOf_eq i s).imp_right .inl⟩
    · exact .inl ⟨rfl, .inr (.inr rfl)⟩

theorem hostMove_cases {c : HostCmd} {s t : State} (h : hostMove c s = .next t) :
    t = s.discard ∨ t = (s.latch c).refuseIllegal ∨ ∃ i, exec i (s.latch c) = .next t := by
  unfold hostMove at h
  split at h
  · injection h with h; exact .inl h.symm
  · split at h
    · cases h
    · split at h
      · next i _ => exact .inr (.inr ⟨i, h⟩)
      · injection h with h; exact .inr (.inl h.symm)

theorem sequencerMove_cases {s t : State} (h : sequencerMove s = .next t) : t = s ∨ ∃ i, exec i s = .next t := by
  unfold sequencerMove at h
  split at h
  · cases h
  · split at h
    · split at h
      · next i _ => exact .inr ⟨i, h⟩
      · cases h
    · injection h with h; exact .inl h.symm

theorem handlerMove_cases {n : InstNum} {s t : State} (h : handlerMove n s = .next t) :
    t = s ∨ (∃ k x, (s.inst n).complete k = some x ∧ t = s.setInst n x) ∨ t = s.recordFault .unmodelledTransfer := by
  unfold handlerMove at h
  split at h
  · cases h
  · split at h
    · injection h with h; exact .inl h.symm
    · split at h <;> injection h with h
      · next k _ _ x hx => exact .inr (.inl ⟨k, x, hx, h.symm⟩)
      · exact .inr (.inr h.symm)

theorem step_of_env_handler {s : State} {n : InstNum} {rest : List Turn} (h : s.env = .handler n :: rest) :
    step s = handlerMove n (s.setEnv rest) := by
  simp [step, nextMove, h]

/-- A step is a move of the host, the sequencer or a handler, made from the state but for the used entry of `env`. -/
theorem step_cases {s t : State} (h : step s = .next t) :
    ∃ e, (∃ c, hostMove c (s.setEnv e) = .next t) ∨ sequencerMove (s.setEnv e) = .next t ∨
      ∃ n, handlerMove n (s.setEnv e) = .next t := by
  cases he : s.env with
  | nil =>
    have hs : s.setEnv [] = s := by rw [← he]; rfl
    exact ⟨[], .inr (.inl (by rw [hs, ← step_of_env_nil he, h]))⟩
  | cons turn rest =>
    refine ⟨rest, ?_⟩
    cases turn with
    | host c => exact .inl ⟨c, (step_of_env_host he).symm.trans h⟩
    | sequencer => exact .inr (.inl ((step_of_env_sequencer he).symm.trans h))
    | handler n => exact .inr (.inr ⟨n, (step_of_env_handler he).symm.trans h⟩)

/-! ### The statements about results and marks -/

/-- Settles O57: a presentation writes no result, and a micro-operation changes one only where it ends the command
with OK. -/
theorem erroredCommandWritesNoResult : Obligations.ErroredCommandWritesNoResult := by
  intro i s t h hchanged
  rcases exec_cases h with ⟨-, rfl | rfl | rfl⟩ | ⟨hb, hframe⟩
  · exact absurd ⟨rfl, rfl, rfl, rfl, rfl⟩ hchanged
  · exact absurd ⟨rfl, rfl, rfl, rfl, rfl⟩ hchanged
  · exact absurd ⟨rfl, rfl, rfl, rfl, rfl⟩ hchanged
  · exact ⟨hb, hframe.results.resolve_left hchanged⟩

/-- The marks of `s` are in `t`, and so are its parameters (spec/10_state.md R47, spec/00_scope.md R8). -/
def MarksGrow (s t : State) : Prop :=
  (s.refused = true → t.refused = true) ∧ (∀ f ∈ s.faults, f ∈ t.faults) ∧ t.params = s.params

theorem exec_marksGrow {i : Instr} {s t : State} (h : exec i s = .next t) : MarksGrow s t := by
  rcases exec_cases h with ⟨-, rfl | rfl | rfl⟩ | ⟨-, hframe⟩
  · exact ⟨id, fun _ hf => hf, rfl⟩
  · exact ⟨id, fun _ hf => hf, rfl⟩
  · exact ⟨fun _ => rfl, fun _ hf => hf, rfl⟩
  · exact ⟨fun hr => hframe.refused.trans hr, hframe.faults, hframe.params⟩

theorem hostMove_marksGrow {c : HostCmd} {s t : State} (h : hostMove c s = .next t) : MarksGrow s t := by
  obtain rfl | rfl | ⟨i, h⟩ := hostMove_cases h
  · exact ⟨fun _ => rfl, fun _ hf => hf, rfl⟩
  · exact ⟨fun _ => rfl, fun _ hf => hf, rfl⟩
  · exact exec_marksGrow (s := s.latch c) h

theorem sequencerMove_marksGrow {s t : State} (h : sequencerMove s = .next t) : MarksGrow s t := by
  obtain rfl | ⟨i, h⟩ := sequencerMove_cases h
  · exact ⟨id, fun _ hf => hf, rfl⟩
  · exact exec_marksGrow h

theorem handlerMove_marksGrow {n : InstNum} {s t : State} (h : handlerMove n s = .next t) : MarksGrow s t := by
  obtain rfl | ⟨k, x, -, rfl⟩ | rfl := handlerMove_cases h
  · exact ⟨id, fun _ hf => hf, rfl⟩
  · exact ⟨id, fun _ hf => hf, rfl⟩
  · exact ⟨id, fun _ hf => mem_recordFault hf, rfl⟩

/-- Settles O53: every agent's move lets the marks grow and leaves the parameters. -/
theorem marksGrowAndParametersStay : Obligations.MarksGrowAndParametersStay := by
  intro s t h
  show MarksGrow s t
  obtain ⟨e, ⟨c, h⟩ | h | ⟨n, h⟩⟩ := step_cases h
  · exact hostMove_marksGrow (s := s.setEnv e) h
  · exact sequencerMove_marksGrow (s := s.setEnv e) h
  · exact handlerMove_marksGrow (s := s.setEnv e) h

/-- Settles O60: an illegal word is refused, a legal one taken or refused by its phase, and none of the three writes
more than the host's move did. -/
theorem presentationWritesTheHostRegisters : Obligations.PresentationWritesTheHostRegisters := by
  rintro s c rest he ⟨hb, hf⟩
  rw [step_of_env_host he]
  cases hd : decode s.params.nInst c.word with
  | error e =>
    refine ⟨((s.setEnv rest).latch c).refuseIllegal, by simp [hostMove, hb, hf, hd], ?_⟩
    exact ⟨rfl, rfl, rfl, rfl, ⟨rfl, rfl, rfl, rfl, rfl⟩, rfl⟩
  | ok i =>
    rw [hostMove_eq_exec (s := s.setEnv rest) hb hd]
    refine ⟨_, exec_presented (s := (s.setEnv rest).latch c) hb hf i, ?_⟩
    split
    · obtain htake | htake := takeOf_eq i ((s.setEnv rest).latch c) <;> rw [htake] <;>
        exact ⟨rfl, rfl, rfl, rfl, ⟨rfl, rfl, rfl, rfl, rfl⟩, rfl⟩
    · exact ⟨rfl, rfl, rfl, rfl, ⟨rfl, rfl, rfl, rfl, rfl⟩, rfl⟩

end Sys2Proof.Machine
end

section
/-! SUPPORT. Register reads and writes through memory (spec/20_memory.md R62), and the statements about them, about the
host's reads and about block reset. -/

namespace Sys2Proof.Machine

open Sys2Proof.Config

/-! ### The address of an access -/

/-- An access that reaches a register was made at the register's own address. -/
theorem eq_regAddr_of_accessReg {n : InstNum} {a : Word} {w : Nat} {s : State} {r : Reg}
    (h : accessReg n a w s = .ok r) : a = s.regAddr n r := by
  unfold accessReg at h
  split at h
  · split at h
    · split at h
      · next r' hr =>
        obtain rfl : r' = r := by injection h
        have ho : r'.offset = a - s.base n := by simpa using List.find?_some hr
        rw [State.regAddr, ho, BitVec.add_comm, BitVec.sub_add_cancel]
      · cases h
    · cases h
  · cases h

theorem accessReg_congr {m : InstNum} {s t : State} (hp : t.params = s.params)
    (hpow : (t.inst m).powered = (s.inst m).powered) (a : Word) (w : Nat) : accessReg m a w t = accessReg m a w s := by
  simp only [accessReg, State.base, hp, hpow]

/-- An access reads as before where no register it can reach reads otherwise. -/
theorem memRead_congr {m : InstNum} {s t : State} {a : Word} {w : Nat} (hp : t.params = s.params)
    (hpow : (t.inst m).powered = (s.inst m).powered)
    (hread : ∀ r, a = s.regAddr m r → (t.inst m).read r = (s.inst m).read r) : memRead m a w t = memRead m a w s := by
  unfold memRead
  rw [accessReg_congr hp hpow]
  cases h : accessReg m a w s with
  | ok r => simp [hread r (eq_regAddr_of_accessReg h)]
  | error f => rfl

/-! ### A write at a register's own address -/

/-- Whatever fault it records, a write to a register other than IF1CRQ stores the value (R172, R174). -/
theorem memWrite_regAddr_inst {s : State} (hp : s.params.Wf) {n : InstNum} (hpow : (s.inst n).powered = true) {r : Reg}
    (hr : r ≠ .if1crq) (v : Word) (m : InstNum) : (memWrite n (s.regAddr n r) 4 v s).inst m =
      (s.setInst n ((s.inst n).store s.params.writeProtect r v)).inst m := by
  simp only [memWrite, accessReg_regAddr hp hpow, CanInst.write, hr, if_false]
  split <;> rfl

theorem memWrite_params (n : InstNum) (a : Word) (w : Nat) (v : Word) (s : State) :
    (memWrite n a w v s).params = s.params := by
  obtain ⟨x, h | ⟨f, h⟩⟩ := memWrite_cases n a w v s <;> rw [h] <;> rfl

theorem isTiming_iff (r : Reg) : r.isTiming = true ↔ r = .bit ∨ r = .brpe := by
  cases r <;> decide

/-- A timing register is outside the interface window, so a write to it meets no fault. -/
theorem memWrite_timing {s : State} (hp : s.params.Wf) {n : InstNum} (hpow : (s.inst n).powered = true) {r : Reg}
    (ht : r.isTiming = true) (v : Word) : memWrite n (s.regAddr n r) 4 v s =
      s.setInst n ((s.inst n).store s.params.writeProtect r v) := by
  have hr : r ≠ .if1crq := by rintro rfl; cases ht
  have hif1 : r.isIf1 = false := by obtain rfl | rfl := (isTiming_iff r).1 ht <;> rfl
  simp [memWrite, accessReg_regAddr hp hpow, write_of_quiet hr (by simp [hif1]), State.recordFault?]

/-! ### Write enable (spec/10_state.md R29) -/

@[simp] theorem initBit_read_ctl (x : CanInst) : initBit (x.read .ctl) = initBit x.regs.ctl := by
  simp [initBit, CanInst.read, Reg.writable]

@[simp] theorem cceBit_read_ctl (x : CanInst) : cceBit (x.read .ctl) = cceBit x.regs.ctl := by
  simp [cceBit, CanInst.read, Reg.writable]

theorem writeEnabled_iff (x : CanInst) (p : Bool) (r : Reg) : x.writeEnabled p r = true ↔
    (r.isTiming = true → p = true → initBit (x.read .ctl) = true ∧ cceBit (x.read .ctl) = true) := by
  cases hr : r.isTiming <;> cases p <;> simp [CanInst.writeEnabled, hr]

/-- BUSY is the one implemented bit a write does not change (R30). -/
theorem writable_eq_impl {r : Reg} (hr : r ≠ .if1crq) : r.writable = r.impl := by
  cases r
  case if1crq => exact absurd rfl hr
  all_goals rfl

/-! ### The statements -/

/-- Settles O41: the write stores the implemented bits, and an access that reaches another register, or another
peripheral's, reads what it read before. -/
theorem readReturnsTheLastWrite : Obligations.ReadReturnsTheLastWrite := by
  intro n r v s hp hpow hr hen
  have hw : (s.inst n).writeEnabled s.params.writeProtect r = true :=
    (writeEnabled_iff ..).2 fun ht => hen ((isTiming_iff r).1 ht)
  have hparams := memWrite_params n (s.regAddr n r) 4 v s
  have hinst := memWrite_regAddr_inst hp hpow hr v
  generalize memWrite n (s.regAddr n r) 4 v s = t at hparams hinst
  have hself : t.inst n = (s.inst n).store s.params.writeProtect r v := (hinst n).trans (inst_setInst_self ..)
  constructor
  · have haddr : s.regAddr n r = t.regAddr n r := by simp only [State.regAddr, State.base, hparams]
    rw [haddr, memRead_regAddr (hparams ▸ hp) (by rw [hself, store_powered, hpow]), hself, read_store_self hw hr,
      writable_eq_impl hr]
  · intro m a w hne
    by_cases hm : m = n
    · subst hm
      refine memRead_congr hparams (by rw [hself, store_powered]) fun r' ha => ?_
      have hr' : r' ≠ r := by rintro rfl; exact hne ⟨rfl, r', List.mem_singleton.2 rfl, ha⟩
      rw [hself, read_store_ne _ _ hr']
    · have hother : t.inst m = s.inst m := (hinst m).trans (inst_setInst_ne s _ hm)
      exact memRead_congr hparams (by rw [hother]) fun r' _ => by rw [hother]

/-- Settles O42: BIT and BRPE take the write exactly when they are write enabled. -/
theorem timingWritesNeedInitAndCce : Obligations.TimingWritesNeedInitAndCce := by
  intro n r v s hp hpow htiming
  have ht : r.isTiming = true := (isTiming_iff r).2 htiming
  have hr : r ≠ .if1crq := by rintro rfl; cases ht
  rw [memWrite_timing hp hpow ht]
  refine ⟨fun hprot hclosed => ?ignored, fun hopen => ⟨?taken, rfl⟩⟩
  case ignored =>
    have hw : (s.inst n).writeEnabled s.params.writeProtect r = false :=
      Bool.eq_false_iff.2 fun hw => hclosed ((writeEnabled_iff ..).1 hw ht hprot)
    rw [store_of_protected hw, setInst_inst]
  case taken =>
    have hw : (s.inst n).writeEnabled s.params.writeProtect r = true :=
      (writeEnabled_iff ..).2 fun _ hprot => hopen.resolve_left (by simp [hprot])
    rw [inst_setInst_self, read_store_self hw hr, writable_eq_impl hr]

/-- Settles O47. -/
theorem busyReadsThePendingTransfer : Obligations.BusyReadsThePendingTransfer := by
  intro x r
  refine ⟨?_, read_within_impl x r⟩
  rw [← Option.isSome_iff_ne_none, ← busyBit_read]
  rfl

theorem hostRead_busy {s : State} (hb : s.cmdBusy = true) (r : HostReg) : s.hostRead r = none := by
  simp [State.hostRead, hb]

/-- Settles O12. -/
theorem hostReadsOnlyWhenIdle : Obligations.HostReadsOnlyWhenIdle := by
  refine fun s r => ⟨fun hb => hostRead_busy hb r, fun hb => ?_⟩
  have hfield (x : ResField) : (x.setWidth 32).toNat = x.toNat := BitVec.toNat_setWidth_of_le (by decide)
  simp only [State.hostRead, hb]
  refine ⟨rfl, rfl, ?_, ?_, ?_, ?_⟩ <;> exact congrArg some (hfield _)

theorem inst_reset (n : InstNum) : State.reset.inst n = CanInst.reset := by
  simp [State.inst, State.reset]

/-- Settles O48. -/
theorem blockResetState : Obligations.BlockResetState :=
  ⟨fun n => by rw [inst_reset]; exact ⟨rfl, rfl, rfl⟩, rfl, rfl, rfl, rfl⟩

end Sys2Proof.Machine
end

section
/-! SUPPORT. The invariant of one peripheral under the operations of CANBT (spec/10_state.md R21, R27, R31, R37, R43). -/

namespace Sys2Proof.Machine

open Sys2Proof.Config

/-! ### Phases and CTL bits -/

theorem Phase.allowsConstruct_iff (p : Phase) : p.allowsConstruct = true ↔ p = .reset ∨ p = .released := by
  cases p <;> decide

theorem Phase.needsPower_iff (p : Phase) : p.needsPower = true ↔ p = .configuring ∨ p.isLive = true := by
  cases p <;> decide

theorem Phase.ne_configuring_of_isLive {p : Phase} (h : p.isLive = true) : p ≠ .configuring := by
  rintro rfl; cases h

theorem Phase.ne_configuring_of_allowsConstruct {p : Phase} (h : p.allowsConstruct = true) : p ≠ .configuring := by
  rintro rfl; cases h

theorem Phase.not_isLive_of_allowsConstruct {p : Phase} (h : p.allowsConstruct = true) : p.isLive = false := by
  obtain rfl | rfl := p.allowsConstruct_iff.1 h <;> rfl

/-- A phase looks at INIT and CCE alone. -/
theorem phaseBits_congr {p : Phase} {a b : Word} (hi : initBit b = initBit a) (hc : cceBit b = cceBit a)
    (h : PhaseBits p a) : PhaseBits p b := by
  cases p
  case reset | released => trivial
  all_goals simpa [PhaseBits, hi, hc] using h

theorem phaseBits_of_allowsConstruct {p : Phase} (h : p.allowsConstruct = true) (a : Word) : PhaseBits p a := by
  obtain rfl | rfl := p.allowsConstruct_iff.1 h <;> trivial

@[simp] theorem phaseBits_writable (p : Phase) (v : Word) : PhaseBits p (v &&& Reg.ctl.writable) ↔ PhaseBits p v := by
  have hi : initBit (v &&& Reg.ctl.writable) = initBit v := by simp [initBit, Reg.writable]
  have hc : cceBit (v &&& Reg.ctl.writable) = cceBit v := by simp [cceBit, Reg.writable]
  exact ⟨phaseBits_congr hi.symm hc.symm, phaseBits_congr hi hc⟩

/-! ### Segments of BIT (R27) -/

@[simp] theorem legalSegments_writable (b : Word) : LegalSegments (b &&& Reg.bit.writable) ↔ LegalSegments b := by
  have hmask : (b &&& Reg.bit.writable).toNat = b.toNat % 2 ^ 16 := by
    rw [BitVec.toNat_and, ← Nat.and_two_pow_sub_one_eq_mod]; rfl
  simp only [LegalSegments, BitVec.extractLsb'_toNat, hmask, Nat.shiftRight_eq_div_pow]
  omega

theorem toNat_ofNat_shiftLeft {a i : Nat} (h : a * 2 ^ i < 2 ^ 32) :
    (BitVec.ofNat 32 a <<< i).toNat = a <<< i := by
  have ha : a < 2 ^ 32 := lt_of_le_of_lt (Nat.le_mul_of_pos_right _ (Nat.two_pow_pos i)) h
  rw [BitVec.toNat_shiftLeft, BitVec.toNat_ofNat, Nat.mod_eq_of_lt ha, Nat.shiftLeft_eq, Nat.mod_eq_of_lt h]

theorem shiftLeft_or {a b i : Nat} (h : b < 2 ^ i) : a <<< i ||| b = a * 2 ^ i + b := by
  rw [← Nat.shiftLeft_add_eq_or_of_lt h, Nat.shiftLeft_eq]

/-- The fields of a committed timing stand side by side (spec/30_encoding.md R87). -/
theorem toNat_encodeBit {e : TimingEntry} (he : e.Legal) (pd : Nat) :
    (encodeBit e pd).toNat =
      (e.seg2 - 1) * 2 ^ 12 + ((e.seg1 - 1) * 2 ^ 8 + ((e.sjw - 1) * 2 ^ 6 + (pd - 1) % 64)) := by
  obtain ⟨-, h1, -, h2, -, h3⟩ := he
  have hpd : (BitVec.ofNat 32 (pd - 1) &&& 0x3F).toNat = (pd - 1) % 64 := by
    have hmask := Nat.and_two_pow_sub_one_eq_mod (BitVec.ofNat 32 (pd - 1)).toNat 6
    rw [BitVec.toNat_ofNat] at hmask
    rw [BitVec.toNat_and, BitVec.toNat_ofNat]
    exact hmask.trans (by omega)
  rw [encodeBit, BitVec.toNat_or, BitVec.toNat_or, BitVec.toNat_or, hpd,
    toNat_ofNat_shiftLeft (by omega), toNat_ofNat_shiftLeft (by omega), toNat_ofNat_shiftLeft (by omega),
    Nat.lor_comm (_ <<< 8), Nat.lor_assoc, Nat.lor_assoc, shiftLeft_or (a := e.sjw - 1),
    shiftLeft_or (a := e.seg1 - 1), shiftLeft_or (a := e.seg2 - 1)] <;> omega

theorem legalSegments_encodeBit {e : TimingEntry} (he : e.Legal) (pd : Nat) : LegalSegments (encodeBit e pd) := by
  have hbit := toNat_encodeBit he pd
  obtain ⟨hlo, h1, -, h2, -, h3⟩ := he
  simp only [LegalSegments, BitVec.extractLsb'_toNat, hbit, Nat.shiftRight_eq_div_pow]
  omega

/-! ### Reads of a stored register -/

theorem read_store_of_not_timing (x : CanInst) (p : Bool) {r : Reg} (ht : r.isTiming = false) (hr : r ≠ .if1crq)
    (v : Word) : (x.store p r v).read r = v &&& r.writable :=
  read_store_self (writeEnabled_of_not_timing x p ht) hr v

theorem read_of_regs {x y : CanInst} (h : y.regs = x.regs) {r : Reg} (hr : r ≠ .if1crq) : y.read r = x.read r := by
  cases r
  case if1crq => exact absurd rfl hr
  all_goals simp only [CanInst.read, h]

/-! ### The invariant of one peripheral -/

namespace CanInst.Ok

variable {x y : CanInst}

/-- In RESET and RELEASED the invariant asks only for implemented bits, and for no transfer where there is no clock. -/
theorem of_allowsConstruct (hstored : x.regs.implemented = x.regs) (hq : x.pending = none)
    (hphase : x.phase.allowsConstruct = true) : x.Ok where
  stored := hstored
  unpowered _ := hq
  clocked h := by
    obtain hp | hl := x.phase.needsPower_iff.1 h
    · exact absurd hp (Phase.ne_configuring_of_allowsConstruct hphase)
    · simp [Phase.not_isLive_of_allowsConstruct hphase] at hl
  mask h := absurd hq h
  control := phaseBits_of_allowsConstruct hphase _
  segments hl := by simp [Phase.not_isLive_of_allowsConstruct hphase] at hl

theorem powered_of_isLive (h : x.Ok) (hl : x.phase.isLive = true) : x.powered = true :=
  h.clocked (x.phase.needsPower_iff.2 (.inr hl))

/-- In CONFIGURING, INIT and CCE open BIT and BRPE (R29, R43). -/
theorem writeEnabled (h : x.Ok) (hc : x.phase = .configuring) (p : Bool) (r : Reg) : x.writeEnabled p r = true := by
  have hbits : PhaseBits .configuring (x.read .ctl) := hc ▸ h.control
  exact (writeEnabled_iff ..).2 fun _ _ => hbits

theorem setPowered_true (h : x.Ok) : (x.setPowered true).Ok where
  stored := h.stored
  unpowered hp := by cases hp
  clocked _ := rfl
  mask hq := by simpa using h.mask hq
  control := by simpa using h.control
  segments hl := by simpa using h.segments hl

/-- Entering a phase whose bits CTL has. -/
theorem setPhase (h : x.Ok) {p : Phase} (hbits : PhaseBits p (x.read .ctl)) (hpow : x.powered = true)
    (hseg : p.isLive = true → LegalSegments (x.read .bit)) : (x.setPhase p).Ok where
  stored := h.stored
  unpowered hp := h.unpowered hp
  clocked _ := hpow
  mask hq := by simpa using h.mask hq
  control := by simpa using hbits
  segments hl := by simpa using hseg hl

/-- A write of CTL together with the phase it means. -/
theorem store_ctl_setPhase (h : x.Ok) (pr : Bool) {v : Word} {p : Phase} (hbits : PhaseBits p v)
    (hpow : x.powered = true) (hseg : p.isLive = true → LegalSegments (x.read .bit)) :
    ((x.store pr .ctl v).setPhase p).Ok where
  stored := store_implemented h.stored ..
  unpowered hp := by simpa using h.unpowered (by simpa using hp)
  clocked _ := by simpa using hpow
  mask hq := by simpa [read_store_ne] using h.mask (by simpa using hq)
  control := by simpa [read_store_of_not_timing x pr (r := .ctl) rfl] using hbits
  segments hl := by simpa [read_store_ne] using hseg hl

/-- A write of CTL that the phase allows. -/
theorem store_ctl (h : x.Ok) (pr : Bool) {v : Word} (hbits : PhaseBits x.phase v) (hpow : x.powered = true) :
    (x.store pr .ctl v).Ok := by
  have hsame : (x.store pr .ctl v).setPhase x.phase = x.store pr .ctl v := by
    conv_lhs => rw [← store_phase x pr .ctl v]
    rfl
  exact hsame ▸ h.store_ctl_setPhase pr hbits hpow h.segments

/-- A write of another register: of BIT outside the live phases, of IF1CMSK with no transfer pending. -/
theorem store (h : x.Ok) (pr : Bool) (r : Reg) (v : Word) (hctl : r ≠ .ctl)
    (hbit : r = .bit → x.phase.isLive = false) (hmask : r = .if1cmsk → x.pending = none) : (x.store pr r v).Ok where
  stored := store_implemented h.stored ..
  unpowered hp := by simpa using h.unpowered (by simpa using hp)
  clocked hp := by simpa using h.clocked (by simpa using hp)
  mask hq := by
    rw [store_pending] at hq
    rw [read_store_ne x pr fun hr => hq (hmask hr.symm)]
    exact h.mask hq
  control := by simpa [read_store_ne _ _ hctl.symm] using h.control
  segments hl := by
    rw [store_phase] at hl
    rw [read_store_ne x pr fun hr => by simp [hbit hr.symm] at hl]
    exact h.segments hl

theorem store_bit (h : x.Ok) (hc : x.phase = .configuring) (pr : Bool) (v : Word) : (x.store pr .bit v).Ok :=
  h.store pr .bit v (by decide) (fun _ => by simp [hc, Phase.isLive]) nofun

/-- The start of a transfer under one of the two masks (R31, R172). -/
theorem setPending_some (h : x.Ok) (hpow : x.powered = true)
    (hmask : x.read .if1cmsk = cmskWrite ∨ x.read .if1cmsk = cmskClear) (k : ObjIdx) :
    (x.setPending (some k)).Ok where
  stored := h.stored
  unpowered hp := by simp [hpow] at hp
  clocked _ := hpow
  mask _ := by simpa [read_setPending] using hmask
  control := by simpa [read_setPending] using h.control
  segments hl := by simpa [read_setPending] using h.segments hl

/-- A request for an object (R172). -/
theorem store_request (h : x.Ok) (hpow : x.powered = true)
    (hmask : x.read .if1cmsk = cmskWrite ∨ x.read .if1cmsk = cmskClear) (pr : Bool) (v : Word) (k : ObjIdx) :
    ((x.store pr .if1crq v).setPending (some k)).Ok :=
  (h.store pr .if1crq v (by decide) nofun nofun).setPending_some (by simpa using hpow)
    (by simpa [read_store_ne] using hmask) k

/-- The end of a transfer. -/
theorem of_complete (h : x.Ok) {k : ObjIdx} (hc : x.complete k = some y) : y.Ok := by
  obtain ⟨hpow, hphase, hregs, hq, -⟩ := complete_frame hc
  exact {
    stored := by rw [hregs]; exact h.stored
    unpowered := fun _ => hq
    clocked := by rw [hphase, hpow]; exact h.clocked
    mask := fun hne => absurd hq hne
    control := by rw [hphase, read_of_regs hregs (by decide)]; exact h.control
    segments := by rw [hphase, read_of_regs hregs (by decide)]; exact h.segments }

/-- A pending transfer has a mask the handler knows, so it completes (R173). -/
theorem complete_isSome (h : x.Ok) {k : ObjIdx} (hq : x.pending = some k) : ∃ y, x.complete k = some y := by
  rcases h.mask (by simp [hq]) with hm | hm
  · exact ⟨_, complete_write hm k⟩
  · exact ⟨_, complete_clear hm k⟩

end CanInst.Ok

end Sys2Proof.Machine
end

section
/-! SUPPORT. The invariant of CANBT: where each micro-operation of a running command lands, what a presentation and a
transfer's completion keep, and that every step keeps the invariant. -/

namespace Sys2Proof.Machine

open Sys2Proof.Config

/-! ### Two ways to meet the invariant -/

/-- With no command running, nothing is in CONFIGURING. -/
theorem State.Inv.of_idle {t : State} (hp : t.params.Wf) (hi : ∀ m, (t.inst m).Ok) (hf : t.faults = [])
    (hb : t.cmdBusy = false) (hl : t.loc = Locals.idle) (hc : ∀ m, (t.inst m).phase ≠ .configuring) : t.Inv where
  params := hp
  insts := hi
  clean := hf
  idle _ := hl
  configuring m hm := absurd hm (hc m)
  running h := by rw [hb] at h; cases h

/-- With a command running, only its own peripheral can be in CONFIGURING. -/
theorem State.Inv.of_running {t : State} {i : Instr} (hp : t.params.Wf) (hi : ∀ m, (t.inst m).Ok) (hf : t.faults = [])
    (hb : t.cmdBusy = true) (hd : decode t.params.nInst t.cmd = .ok i) (hat : AtStep i t)
    (hc : ∀ m, m ≠ i.inst → (t.inst m).phase ≠ .configuring) : t.Inv where
  params := hp
  insts := hi
  clean := hf
  idle h := by rw [hb] at h; cases h
  configuring m hm := ⟨hb, i, hd, by_contra fun hne => hc m (Ne.symm hne) hm⟩
  running _ := ⟨i, hd, hat⟩

theorem State.Inv.not_configuring_of_idle {s : State} (hs : s.Inv) (hb : s.cmdBusy = false) (m : InstNum) :
    (s.inst m).phase ≠ .configuring := by
  intro hm
  obtain ⟨hbusy, -⟩ := hs.configuring m hm
  rw [hb] at hbusy
  cases hbusy

theorem State.Inv.not_configuring_of_ne {s : State} (hs : s.Inv) {i : Instr}
    (hd : decode s.params.nInst s.cmd = .ok i) {m : InstNum} (hne : m ≠ i.inst) :
    (s.inst m).phase ≠ .configuring := by
  intro hm
  obtain ⟨-, j, hj, hjm⟩ := hs.configuring m hm
  obtain rfl : i = j := Except.ok.inj (hd.symm.trans hj)
  exact hne hjm.symm

/-- The invariant does not look at the moves to come. -/
theorem State.Inv.setEnv {s : State} (hs : s.Inv) (e : List Turn) : (s.setEnv e).Inv :=
  ⟨hs.params, hs.insts, hs.clean, hs.idle, hs.configuring, hs.running⟩

/-- Nor at the `refused` mark. -/
theorem State.Inv.discard {s : State} (hs : s.Inv) : s.discard.Inv :=
  ⟨hs.params, hs.insts, hs.clean, hs.idle, hs.configuring, hs.running⟩

/-! ### Where a micro-operation lands -/

/-- What a micro-operation of command `i` has to bring about for the invariant, beside `MicroFrame`: no fault, its own
peripheral within the invariant, and a position of its list or an end outside CONFIGURING. -/
structure Lands (i : Instr) (t : State) : Prop where
  clean : t.faults = []
  ok : (t.inst i.inst).Ok
  running : t.cmdBusy = true → AtStep i t
  ended : t.cmdBusy = false → (t.inst i.inst).phase ≠ .configuring

theorem Lands.goes_on {i : Instr} {t : State} (hf : t.faults = []) (hok : (t.inst i.inst).Ok) (hb : t.cmdBusy = true)
    (hat : AtStep i t) : Lands i t :=
  ⟨hf, hok, fun _ => hat, fun h => absurd (hb.symm.trans h) (by decide)⟩

theorem Lands.ends {i : Instr} {t : State} (hf : t.faults = []) (hok : (t.inst i.inst).Ok) (hb : t.cmdBusy = false)
    (hphase : (t.inst i.inst).phase ≠ .configuring) : Lands i t :=
  ⟨hf, hok, fun h => absurd (hb.symm.trans h) (by decide), fun _ => hphase⟩

theorem State.Inv.of_lands {s t : State} {i : Instr} (hs : s.Inv) (hb : s.cmdBusy = true)
    (hd : decode s.params.nInst s.cmd = .ok i) (hframe : MicroFrame i.inst s t) (hl : Lands i t) : t.Inv := by
  have hp : t.params.Wf := hframe.params ▸ hs.params
  have hi : ∀ m, (t.inst m).Ok := fun m => by
    by_cases hm : m = i.inst
    · exact hm ▸ hl.ok
    · rw [hframe.others m hm]; exact hs.insts m
  have hc : ∀ m, m ≠ i.inst → (t.inst m).phase ≠ .configuring := fun m hm => by
    rw [hframe.others m hm]; exact hs.not_configuring_of_ne hd hm
  rcases hframe.status with ⟨hbusy, -⟩ | ⟨hbusy, hloc, -⟩
  · rw [hb] at hbusy
    exact .of_running hp hi hl.clean hbusy (by rw [hframe.params, hframe.cmd, hd]) (hl.running hbusy) hc
  · refine .of_idle hp hi hl.clean hbusy hloc fun m => ?_
    by_cases hm : m = i.inst
    · exact hm ▸ hl.ended hbusy
    · exact hc m hm

/-! ### Values the commands write (spec/41_controller.md, spec/30_encoding.md R89) -/

theorem ctlInitCce_writable : ctlInitCce &&& Reg.ctl.writable = ctlInitCce := by decide
theorem cmskWrite_writable : cmskWrite &&& Reg.if1cmsk.writable = cmskWrite := by decide
theorem cmskClear_writable : cmskClear &&& Reg.if1cmsk.writable = cmskClear := by decide

theorem initBit_clear_init (c : Word) : initBit (c &&& ~~~ctlInit) = false := by simp [initBit, ctlInit]
theorem initBit_set_init (c : Word) : initBit (c ||| ctlInit) = true := by simp [initBit, ctlInit]

theorem phaseBits_clear_ie {p : Phase} {c : Word} (h : PhaseBits p c) : PhaseBits p (c &&& ~~~ctlIe) :=
  phaseBits_congr (by simp [initBit, ctlIe]) (by simp [cceBit, ctlIe]) h

theorem phaseBits_set_ie {p : Phase} {c : Word} (h : PhaseBits p c) : PhaseBits p (c ||| ctlIe) :=
  phaseBits_congr (by simp [initBit, ctlIe]) (by simp [cceBit, ctlIe]) h

theorem phaseBits_configuring (c : Word) : PhaseBits .configuring (c ||| ctlInitCce) :=
  ⟨by simp [initBit, ctlInitCce], by simp [cceBit, ctlInitCce]⟩

/-! ### The commands -/

theorem entry_legal_of_solution {s : State} (hp : s.params.Wf) {sol : Solution} (h : s.solution = some sol) :
    sol.entry.Legal := by
  unfold State.solution solveFor at h
  split at h
  · cases h
  · split at h
    · cases h
    · next r k _ =>
      obtain rfl := Option.some.inj h
      exact hp.table k

/-- A micro-operation that writes CTL, BIT or BRPE goes on, whatever transfer is pending. -/
theorem withWrite_of_not_if1 {s : State} (hp : s.params.Wf) {n : InstNum} (hpow : (s.inst n).powered = true)
    (hf : s.faults = []) {r : Reg} (hr : r.isIf1 = false) (v : Word) (k : State → State) :
    withWrite n r v k s = .next (k (s.setInst n ((s.inst n).store s.params.writeProtect r v))) :=
  withWrite_next hp hpow hf (by rintro rfl; cases hr) (fun h => absurd (hr.symm.trans h) (by decide)) v k

section Commands

variable {n : InstNum} {s : State} (hs : s.Inv) (hb : s.cmdBusy = true)
include hs hb

theorem constructMicro_lands (h : AtStep (.construct n) s) :
    ∃ t, constructMicro n s = .next t ∧ Lands (.construct n) t := by
  obtain ⟨hle, hgate, hpow, hconf, hseg, hc⟩ := h
  have hok := hs.insts n
  interval_cases hk : s.seqStep <;> simp only [constructMicro, hk]
  · -- step 0
    refine ⟨_, rfl, .goes_on hs.clean ?_ hb ?_⟩
    · simpa [Instr.inst] using hok.setPowered_true
    · simp [AtStep, hk, hgate]
  · -- step 1
    refine ⟨_, rfl, .goes_on hs.clean ?_ hb ?_⟩
    · simpa [Instr.inst] using .of_allowsConstruct (implemented_implemented _) rfl (hgate (by decide))
    · simp [AtStep, hk, hgate, hpow]
  · -- step 2
    rw [withWrite_of_not_if1 hs.params (hpow (by decide)) hs.clean rfl]
    have hphase := phaseBits_of_allowsConstruct (hgate (by decide)) 0
    refine ⟨_, rfl, .goes_on hs.clean ?_ hb ?_⟩
    · simpa [Instr.inst] using hok.store_ctl _ hphase (hpow (by decide))
    · simp [AtStep, hk, hgate, hpow]
  · -- step 3
    rw [withWrite_of_not_if1 hs.params (hpow (by decide)) hs.clean rfl]
    refine ⟨_, rfl, .goes_on hs.clean ?_ hb ?_⟩
    · simpa [Instr.inst] using
        hok.store_ctl_setPhase (p := .configuring) _ ⟨by decide, by decide⟩ (hpow (by decide)) (by simp [Phase.isLive])
    · simp [AtStep, hk, hpow, read_store_of_not_timing _ _ (r := .ctl) rfl, ctlInitCce_writable]
  · -- step 4
    obtain ⟨hphase, hctl⟩ := hconf (by decide)
    have hen := hok.writeEnabled hphase s.params.writeProtect .bit
    have hlegal : LegalSegments s.params.defaultBit := hs.params.defaultBit.2
    rw [withWrite_of_not_if1 hs.params (hpow (by decide)) hs.clean rfl]
    refine ⟨_, rfl, .goes_on hs.clean ?_ hb ?_⟩
    · simpa [Instr.inst] using hok.store_bit hphase _ _
    · simp [AtStep, hk, hpow, hphase, hctl, read_store_ne, read_store_self hen, hlegal]
  · -- step 5
    obtain ⟨hphase, hctl⟩ := hconf (by decide)
    rw [withRead_next hs.params (hpow (by decide))]
    refine ⟨_, rfl, .goes_on hs.clean hok hb ?_⟩
    simp [AtStep, hk, hpow, hphase, hctl, hseg]
  · -- step 6
    obtain ⟨hphase, hctl⟩ := hconf (by decide)
    rw [withWrite_of_not_if1 hs.params (hpow (by decide)) hs.clean rfl, hc rfl]
    refine ⟨_, rfl, .ends hs.clean ?_ rfl (by simp [Instr.inst])⟩
    simpa [Instr.inst] using
      hok.store_ctl_setPhase (p := .initialized) _ ⟨by decide, by decide⟩ (hpow (by decide)) (fun _ => hseg (by decide))

omit hb in
theorem solveMicro_lands (h : AtStep (.solve n) s) : ∃ t, solveMicro s = .next t ∧ Lands (.solve n) t := by
  obtain ⟨hk, hphase⟩ := h
  simp only [solveMicro, hk]
  cases s.solution <;> exact ⟨_, rfl, .ends hs.clean (hs.insts n) rfl hphase⟩

theorem setBitRateMicro_lands (h : AtStep (.setBitRate n) s) :
    ∃ t, setBitRateMicro n s = .next t ∧ Lands (.setBitRate n) t := by
  obtain ⟨hle, hlive, hsol, hsaved, hconf, hseg⟩ := h
  have hok := hs.insts n
  have hpow : (s.inst n).powered = true := hok.clocked ((Phase.needsPower_iff _).2 (by
    by_cases hk : s.seqStep ≤ 2
    · exact .inr (hlive hk)
    · exact .inl (hconf (by omega)).1))
  interval_cases hk : s.seqStep <;> simp only [setBitRateMicro, hk]
  · -- step 0
    cases hsolution : s.solution with
    | none => exact ⟨_, rfl, .ends hs.clean hok rfl (Phase.ne_configuring_of_isLive (hlive (by decide)))⟩
    | some sol =>
      refine ⟨_, rfl, .goes_on hs.clean hok hb ?_⟩
      simpa [AtStep, hk, hlive] using entry_legal_of_solution hs.params hsolution
  · -- step 1
    rw [withRead_next hs.params hpow]
    refine ⟨_, rfl, .goes_on hs.clean hok hb ?_⟩
    simpa [AtStep, hk, hlive] using hsol
  · -- step 2
    rw [withWrite_of_not_if1 hs.params hpow hs.clean rfl]
    refine ⟨_, rfl, .goes_on hs.clean ?_ hb ?_⟩
    · simpa [Instr.inst] using hok.store_ctl_setPhase (p := .configuring) _ (phaseBits_configuring s.savedCtl) hpow
        (by simp [Phase.isLive])
    · simpa [AtStep, hk, hlive, hsaved rfl] using ⟨hsol (by decide), hok.control⟩
  · -- step 3
    obtain ⟨hphase, hprior⟩ := hconf (by decide)
    have hen := hok.writeEnabled hphase s.params.writeProtect .bit
    have hlegal := legalSegments_encodeBit (hsol (by decide)) s.loc.sol.pd
    rw [withWrite_of_not_if1 hs.params hpow hs.clean rfl]
    refine ⟨_, rfl, .goes_on hs.clean ?_ hb ?_⟩
    · simpa [Instr.inst] using hok.store_bit hphase _ _
    · simpa [AtStep, hk, hphase, read_store_self hen] using ⟨hsol (by decide), hprior, hlegal⟩
  · -- step 4
    obtain ⟨hphase, hprior⟩ := hconf (by decide)
    rw [withWrite_of_not_if1 hs.params hpow hs.clean rfl]
    refine ⟨_, rfl, .goes_on hs.clean ?_ hb ?_⟩
    · simpa [Instr.inst] using hok.store _ .brpe _ (by decide) nofun nofun
    · simpa [AtStep, hk, hphase, read_store_ne] using ⟨hsol (by decide), hprior, hseg (by decide)⟩
  · -- step 5
    obtain ⟨hphase, hlive', hbits⟩ := hconf (by decide)
    rw [withWrite_of_not_if1 hs.params hpow hs.clean rfl]
    refine ⟨_, rfl, .ends hs.clean ?_ rfl ?_⟩
    · simpa [Instr.inst] using hok.store_ctl_setPhase _ hbits hpow (fun _ => hseg (by decide))
    · simpa [Instr.inst] using Phase.ne_configuring_of_isLive hlive'

theorem changeBaudRateMicro_lands (h : AtStep (.changeBaudRate n) s) :
    ∃ t, changeBaudRateMicro n s = .next t ∧ Lands (.changeBaudRate n) t := by
  obtain ⟨hle, hlive, hc, hc2⟩ := h
  have hok := hs.insts n
  have hpow := hok.powered_of_isLive hlive
  have hphase := Phase.ne_configuring_of_isLive hlive
  interval_cases hk : s.seqStep <;> simp only [changeBaudRateMicro, hk]
  · -- step 0
    split
    · exact ⟨_, rfl, .ends hs.clean hok rfl hphase⟩
    · exact ⟨_, rfl, .goes_on hs.clean hok hb (by simp [AtStep, hk, hlive])⟩
  · -- step 1
    rw [withRead_next hs.params hpow]
    exact ⟨_, rfl, .goes_on hs.clean hok hb (by simp [AtStep, hk, hlive])⟩
  · -- step 2
    rw [withWrite_of_not_if1 hs.params hpow hs.clean rfl, hc rfl]
    refine ⟨_, rfl, .goes_on hs.clean ?_ hb (by simp [AtStep, hk, hlive])⟩
    simpa [Instr.inst] using hok.store_ctl _ (phaseBits_clear_ie hok.control) hpow
  · -- step 3
    rw [withWrite_of_not_if1 hs.params hpow hs.clean rfl]
    refine ⟨_, rfl, .goes_on hs.clean ?_ hb (by simp [AtStep, hk, hlive])⟩
    simpa [Instr.inst] using hok.store _ .brpe _ (by decide) nofun nofun
  · -- step 4
    rw [withRead_next hs.params hpow]
    exact ⟨_, rfl, .goes_on hs.clean hok hb (by simp [AtStep, hk, hlive])⟩
  · -- step 5
    rw [withWrite_of_not_if1 hs.params hpow hs.clean rfl, hc2 rfl]
    refine ⟨_, rfl, .ends hs.clean ?_ rfl (by simpa [Instr.inst] using hphase)⟩
    simpa [Instr.inst] using hok.store_ctl _ (phaseBits_set_ie hok.control) hpow

/-- A wait goes on once no transfer is pending; a read during one is repeated or ends the command. -/
theorem waitNotBusy_lands (h : AtStep (.initMsgObjects n) s)
    (hnext : (s.inst n).pending = none → AtStep (.initMsgObjects n) s.advance) :
    ∃ t, waitNotBusy n s = .next t ∧ Lands (.initMsgObjects n) t := by
  obtain ⟨-, hlive, -⟩ := id h
  have hok := hs.insts n
  have hpow := hok.powered_of_isLive hlive
  cases hq : (s.inst n).pending with
  | none => exact ⟨_, waitNotBusy_quiet hs.params hpow hq, .goes_on hs.clean hok hb (hnext hq)⟩
  | some k =>
    refine ⟨_, waitNotBusy_busy hs.params hpow hq, ?_⟩
    split
    · exact .ends hs.clean hok rfl (Phase.ne_configuring_of_isLive hlive)
    · exact .goes_on hs.clean hok hb h

/-- A slot's request starts its transfer, and goes to the next slot's wait or leaves the pass. -/
theorem slotRequest_lands {w : Nat} {after : State → State} (hlive : (s.inst n).phase.isLive = true)
    (hq : (s.inst n).pending = none) (hslot : 1 ≤ s.slot ∧ s.slot ≤ 32)
    (hmask : (s.inst n).read .if1cmsk = cmskWrite ∨ (s.inst n).read .if1cmsk = cmskClear)
    (hnext : ∀ x : CanInst, x.phase = (s.inst n).phase → x.read .if1cmsk = (s.inst n).read .if1cmsk →
      s.slot < 32 → AtStep (.initMsgObjects n) (((s.setInst n x).setSlot (s.slot + 1)).enterWait w))
    (hafter : ∀ x : CanInst, x.phase = (s.inst n).phase → x.Ok →
      Lands (.initMsgObjects n) (after ((s.setInst n x).setSlot (s.slot + 1)))) :
    ∃ t, withWrite n .if1crq (BitVec.ofNat 32 s.slot) (fun t => t.nextSlot w after) s = .next t ∧
      Lands (.initMsgObjects n) t := by
  have hok := hs.insts n
  have hpow := hok.powered_of_isLive hlive
  rw [withWrite_request hs.params hpow hs.clean hq (objectOfMnum_slot hslot.1 hslot.2)]
  refine ⟨_, rfl, ?_⟩
  have hok' := hok.store_request hpow hmask s.params.writeProtect (BitVec.ofNat 32 s.slot) ⟨s.slot - 1, by omega⟩
  by_cases hlast : s.slot < 32
  · rw [nextSlot_more (s := s.setInst n _) hlast]
    exact .goes_on hs.clean (by simpa [Instr.inst] using hok') hb
      (hnext _ (by simp) (by simp [read_setPending, read_store_ne]) hlast)
  · rw [nextSlot_done (s := s.setInst n _) (not_lt.1 hlast)]
    exact hafter _ (by simp) hok'

theorem initMsgObjectsMicro_lands (h : AtStep (.initMsgObjects n) s) :
    ∃ t, initMsgObjectsMicro n s = .next t ∧ Lands (.initMsgObjects n) t := by
  obtain ⟨hle, hlive, hq, hwrite, hclear, hslot⟩ := id h
  have hok := hs.insts n
  have hpow := hok.powered_of_isLive hlive
  have hphase := Phase.ne_configuring_of_isLive hlive
  interval_cases hk : s.seqStep <;> simp only [initMsgObjectsMicro, hk]
  · -- step 0
    exact waitNotBusy_lands hs hb h fun hq => by simp [AtStep, hk, hlive, hq]
  · -- step 1
    have hq := hq (by decide)
    rw [withWrite_next hs.params hpow hs.clean (by decide) (fun _ => hq)]
    refine ⟨_, rfl, .goes_on hs.clean ?_ hb ?_⟩
    · simpa [Instr.inst] using hok.store _ .if1cmsk _ (by decide) nofun (fun _ => hq)
    · simp [AtStep, hk, hlive, hq, read_store_of_not_timing _ _ (r := .if1cmsk) rfl, cmskWrite_writable]
  · -- step 2
    have hq := hq (by decide)
    rw [withWrite_next hs.params hpow hs.clean (by decide) (fun _ => hq)]
    refine ⟨_, rfl, .goes_on hs.clean ?_ hb ?_⟩
    · simpa [Instr.inst] using hok.store _ .if1arb1 _ (by decide) nofun nofun
    · simp [AtStep, hk, hlive, hq, read_store_ne, hwrite]
  · -- step 3
    have hq := hq (by decide)
    rw [withWrite_next hs.params hpow hs.clean (by decide) (fun _ => hq)]
    refine ⟨_, rfl, .goes_on hs.clean ?_ hb ?_⟩
    · simpa [Instr.inst] using hok.store _ .if1arb2 _ (by decide) nofun nofun
    · simp [AtStep, hk, hlive, hq, read_store_ne, hwrite]
  · -- step 4
    have hq := hq (by decide)
    rw [withWrite_next hs.params hpow hs.clean (by decide) (fun _ => hq)]
    refine ⟨_, rfl, .goes_on hs.clean ?_ hb ?_⟩
    · simpa [Instr.inst] using hok.store _ .if1mctl _ (by decide) nofun nofun
    · simp [AtStep, p1w, hlive, read_store_ne, hwrite]
  · -- step 5
    exact waitNotBusy_lands hs hb h fun hq => by simp [AtStep, hk, hlive, hq, hwrite, hslot]
  · -- step 6
    refine slotRequest_lands hs hb hlive (hq (by decide)) (hslot (by decide)) (.inl (hwrite (by decide)))
      (fun x hx hm hlast => ?_) (fun x hx hok' => ?_)
    · simp [AtStep, p1w, hx, hlive, hm, hwrite, Nat.succ_le_of_lt hlast]
    · exact .goes_on hs.clean (by simpa [Instr.inst] using hok') hb (by simp [AtStep, p2a, hx, hlive])
  · -- step 7
    exact waitNotBusy_lands hs hb h fun hq => by simp [AtStep, hk, hlive, hq]
  · -- step 8
    have hq := hq (by decide)
    rw [withWrite_next hs.params hpow hs.clean (by decide) (fun _ => hq)]
    refine ⟨_, rfl, .goes_on hs.clean ?_ hb ?_⟩
    · simpa [Instr.inst] using hok.store _ .if1cmsk _ (by decide) nofun (fun _ => hq)
    · simp [AtStep, p2w, hlive, read_store_of_not_timing _ _ (r := .if1cmsk) rfl, cmskClear_writable]
  · -- step 9
    exact waitNotBusy_lands hs hb h fun hq => by simp [AtStep, hk, hlive, hq, hclear, hslot]
  · -- step 10
    refine slotRequest_lands hs hb hlive (hq (by decide)) (hslot (by decide)) (.inr (hclear (by decide)))
      (fun x hx hm hlast => ?_) (fun x hx hok' => ?_)
    · simp [AtStep, p2w, hx, hlive, hm, hclear, Nat.succ_le_of_lt hlast]
    · exact .ends hs.clean (by simpa [Instr.inst] using hok') rfl (by simpa [Instr.inst, hx] using hphase)

theorem enableMicro_lands (h : AtStep (.enable n) s) : ∃ t, enableMicro n s = .next t ∧ Lands (.enable n) t := by
  obtain ⟨hle, hlive, -⟩ := h
  have hok := hs.insts n
  have hpow := hok.powered_of_isLive hlive
  interval_cases hk : s.seqStep <;> simp only [enableMicro, hk]
  · -- step 0
    rw [withRead_next hs.params hpow]
    exact ⟨_, rfl, .goes_on hs.clean hok hb (by simp [AtStep, hk, hlive])⟩
  · -- step 1
    rw [withWrite_of_not_if1 hs.params hpow hs.clean rfl]
    refine ⟨_, rfl, .ends hs.clean ?_ rfl (by simp [Instr.inst])⟩
    simpa [Instr.inst] using
      hok.store_ctl_setPhase (p := .enabled) _ (initBit_clear_init s.loc.c) hpow (fun _ => hok.segments hlive)

theorem disableMicro_lands (h : AtStep (.disable n) s) : ∃ t, disableMicro n s = .next t ∧ Lands (.disable n) t := by
  obtain ⟨hle, hlive, -⟩ := h
  have hok := hs.insts n
  have hpow := hok.powered_of_isLive hlive
  interval_cases hk : s.seqStep <;> simp only [disableMicro, hk]
  · -- step 0
    rw [withRead_next hs.params hpow]
    exact ⟨_, rfl, .goes_on hs.clean hok hb (by simp [AtStep, hk, hlive])⟩
  · -- step 1
    rw [withWrite_of_not_if1 hs.params hpow hs.clean rfl]
    refine ⟨_, rfl, .ends hs.clean ?_ rfl (by simp [Instr.inst])⟩
    simpa [Instr.inst] using
      hok.store_ctl_setPhase (p := .disabled) _ (initBit_set_init s.loc.c) hpow (fun _ => hok.segments hlive)

theorem getBitTimingMicro_lands (h : AtStep (.getBitTiming n) s) :
    ∃ t, getBitTimingMicro n s = .next t ∧ Lands (.getBitTiming n) t := by
  obtain ⟨hle, hlive⟩ := h
  have hok := hs.insts n
  have hpow := hok.powered_of_isLive hlive
  interval_cases hk : s.seqStep <;> simp only [getBitTimingMicro, hk] <;> rw [withRead_next hs.params hpow]
  · -- step 0
    exact ⟨_, rfl, .goes_on hs.clean hok hb (by simp [AtStep, hk, hlive])⟩
  · -- step 1
    exact ⟨_, rfl, .ends hs.clean hok rfl (Phase.ne_configuring_of_isLive hlive)⟩

theorem releaseMicro_lands (h : AtStep (.release n) s) : ∃ t, releaseMicro n s = .next t ∧ Lands (.release n) t := by
  obtain ⟨hlive, hstep⟩ := h
  have hok := hs.insts n
  have hpow := hok.powered_of_isLive hlive
  rcases hstep with hk | ⟨hk, hdisable, -⟩
  · cases htd : s.params.teardown <;> simp only [releaseMicro, htd]
    case leave =>
      simp only [releaseLeaveMicro, hk]
      refine ⟨_, rfl, .ends hs.clean ?_ rfl (by simp [Instr.inst])⟩
      simpa [Instr.inst] using hok.setPhase (p := .released) trivial hpow (by simp [Phase.isLive])
    case disable =>
      simp only [releaseDisableMicro, hk]
      rw [withRead_next hs.params hpow]
      exact ⟨_, rfl, .goes_on hs.clean hok hb (by simp [AtStep, hk, hlive, htd])⟩
    case powerOff =>
      simp only [releasePowerOffMicro, hk]
      refine ⟨_, rfl, .ends hs.clean ?_ rfl (by simp [Instr.inst])⟩
      refine .of_allowsConstruct ?_ ?_ ?_ <;> simp [Instr.inst, Phase.allowsConstruct]
  · simp only [releaseMicro, hdisable, releaseDisableMicro, hk]
    rw [withWrite_of_not_if1 hs.params hpow hs.clean rfl]
    refine ⟨_, rfl, .ends hs.clean ?_ rfl (by simp [Instr.inst])⟩
    simpa [Instr.inst] using hok.store_ctl_setPhase (p := .released) _ trivial hpow (by simp [Phase.isLive])

theorem micro_lands {i : Instr} (h : AtStep i s) : ∃ t, microOf i s = .next t ∧ Lands i t := by
  cases i with
  | construct n => exact constructMicro_lands hs hb h
  | solve n => exact solveMicro_lands hs h
  | setBitRate n => exact setBitRateMicro_lands hs hb h
  | changeBaudRate n => exact changeBaudRateMicro_lands hs hb h
  | initMsgObjects n => exact initMsgObjectsMicro_lands hs hb h
  | enable n => exact enableMicro_lands hs hb h
  | disable n => exact disableMicro_lands hs hb h
  | getBitTiming n => exact getBitTimingMicro_lands hs hb h
  | release n => exact releaseMicro_lands hs hb h

end Commands

/-! ### The agents' moves -/

theorem sequencerMove_inv {s : State} (hs : s.Inv) : ∃ t, sequencerMove s = .next t ∧ t.Inv := by
  cases hb : s.cmdBusy with
  | false => exact ⟨s, by simp [sequencerMove, hs.clean, hb], hs⟩
  | true =>
    obtain ⟨i, hd, hat⟩ := hs.running hb
    obtain ⟨t, ht, hl⟩ := micro_lands hs hb hat
    rw [sequencerMove_eq_exec hb hd, exec_running hb hs.clean]
    exact ⟨t, ht, .of_lands hs hb hd (micro_frame hs.clean ht) hl⟩

/-- A command starts at the first position of its list. -/
theorem atStep_take {i : Instr} {s : State} (hg : gateOf i (s.inst i.inst).phase = true)
    (hc : (s.inst i.inst).phase ≠ .configuring) : AtStep i (takeOf i s) := by
  cases i
  case solve n => exact ⟨rfl, hc⟩
  all_goals simpa [AtStep, takeOf, gateOf, Instr.inst] using hg

theorem hostMove_inv {s : State} (hs : s.Inv) (c : HostCmd) : ∃ t, hostMove c s = .next t ∧ t.Inv := by
  cases hb : s.cmdBusy with
  | true => exact ⟨s.discard, by simp [hostMove, hb], hs.discard⟩
  | false =>
    have hc := hs.not_configuring_of_idle hb
    have hl := hs.idle hb
    cases hd : decode s.params.nInst c.word with
    | error e =>
      exact ⟨(s.latch c).refuseIllegal, by simp [hostMove, hb, hs.clean, hd],
        .of_idle hs.params hs.insts hs.clean hb hl hc⟩
    | ok i =>
      rw [hostMove_eq_exec hb hd, exec_presented (s := s.latch c) hb hs.clean]
      refine ⟨_, rfl, ?_⟩
      split
      · next hg =>
        have hat := atStep_take hg (hc i.inst)
        obtain htake | htake := takeOf_eq i (s.latch c) <;> rw [htake] at hat ⊢ <;>
          exact .of_running hs.params hs.insts hs.clean rfl hd hat fun m _ => hc m
      · exact .of_idle hs.params hs.insts hs.clean hb hl hc

/-- What the new value of one peripheral shares with the old one, every peripheral shares. -/
theorem inst_setInst_congr {α : Type} (f : CanInst → α) {s : State} {m : InstNum} {x : CanInst}
    (h : f x = f (s.inst m)) (n : InstNum) : f ((s.setInst m x).inst n) = f (s.inst n) := by
  rw [inst_setInst]
  split
  · next e => rw [e, h]
  · rfl

/-- The positions do not look at what a transfer's completion changes. -/
theorem atStep_complete {i : Instr} {s : State} {m : InstNum} {k : ObjIdx} {x : CanInst}
    (hx : (s.inst m).complete k = some x) (h : AtStep i s) : AtStep i (s.setInst m x) := by
  obtain ⟨hpow, hphase, hregs, hq, -⟩ := complete_frame hx
  have hpow := inst_setInst_congr CanInst.powered hpow
  have hphase := inst_setInst_congr CanInst.phase hphase
  have hread {r : Reg} (hr : r ≠ .if1crq) := inst_setInst_congr (CanInst.read · r) (read_of_regs hregs hr)
  cases i
  case initMsgObjects n =>
    obtain ⟨hle, hlive, hquiet, hrest⟩ := h
    have hquiet' (hk : (s.inst n).pending = none) : ((s.setInst m x).inst n).pending = none := by
      rw [inst_setInst]
      split
      · exact hq
      · exact hk
    simp only [AtStep, hphase, hread (r := .if1cmsk) (by decide)]
    exact ⟨hle, hlive, fun hk => hquiet' (hquiet hk), hrest⟩
  all_goals
    simp only [AtStep, hpow, hphase, hread (r := .ctl) (by decide), hread (r := .bit) (by decide)]
    exact h

theorem handlerMove_inv {s : State} (hs : s.Inv) (n : InstNum) : ∃ t, handlerMove n s = .next t ∧ t.Inv := by
  cases hq : (s.inst n).pending with
  | none => exact ⟨s, by simp [handlerMove, hs.clean, hq], hs⟩
  | some k =>
    obtain ⟨x, hx⟩ := (hs.insts n).complete_isSome hq
    obtain ⟨-, hphase, -⟩ := complete_frame hx
    have hphase := inst_setInst_congr CanInst.phase hphase
    refine ⟨s.setInst n x, by simp [handlerMove, hs.clean, hq, hx], {
      params := hs.params
      insts := fun m => ?_
      clean := hs.clean
      idle := hs.idle
      configuring := fun m hm => hs.configuring m ((hphase m).symm.trans hm)
      running := fun hb => (hs.running hb).imp fun i ⟨hd, hat⟩ => ⟨hd, atStep_complete hx hat⟩ }⟩
    rw [inst_setInst]
    split
    · exact (hs.insts n).of_complete hx
    · exact hs.insts m

/-! ### Every step -/

/-- From a state of the invariant a step answers a next state of the invariant. -/
theorem step_inv {s : State} (hs : s.Inv) : ∃ t, step s = .next t ∧ t.Inv := by
  cases he : s.env with
  | nil => rw [step_of_env_nil he]; exact sequencerMove_inv hs
  | cons turn rest =>
    cases turn with
    | host c => rw [step_of_env_host he]; exact hostMove_inv (hs.setEnv rest) c
    | sequencer => rw [step_of_env_sequencer he]; exact sequencerMove_inv (hs.setEnv rest)
    | handler n => rw [step_of_env_handler he]; exact handlerMove_inv (hs.setEnv rest) n

/-- Settles O51: the next state that `step_inv` names is the only one. -/
theorem everyStepKeepsTheInvariant : Obligations.EveryStepKeepsTheInvariant := by
  intro s t hs h
  obtain ⟨u, hu, hinv⟩ := step_inv hs
  obtain rfl : u = t := Host.Outcome.next.inj (hu.symm.trans h)
  exact hinv

theorem defaultParams_wf : defaultParams.Wf := by constructor <;> decide

theorem canInst_reset_ok : CanInst.reset.Ok := .of_allowsConstruct (by decide) rfl rfl

/-- Settles O50: after reset no command runs and every peripheral is in RESET. -/
theorem invariantHoldsAtReset : Obligations.InvariantHoldsAtReset := by
  refine .of_idle defaultParams_wf (fun m => ?_) rfl rfl rfl fun m => ?_ <;> rw [inst_reset]
  · exact canInst_reset_ok
  · decide

end Sys2Proof.Machine
end

section
/-! SUPPORT. Register accesses that reach no register (spec/20_memory.md R62). -/

namespace Sys2Proof.Machine

/-- A powered instance's access of another width, off a word boundary, or at no register's address is BAD_ACCESS. -/
theorem accessReg_badAccess {n : InstNum} {a : Word} {w : Nat} {s : State} (hpow : (s.inst n).powered = true)
    (hbad : w ≠ 4 ∨ a.toNat % 4 ≠ 0 ∨ ∀ r : Reg, a ≠ s.regAddr n r) : accessReg n a w s = .error .badAccess := by
  by_cases hword : w = 4 ∧ a.toNat % 4 = 0
  · have haddr : ∀ r : Reg, a ≠ s.regAddr n r :=
      (hbad.resolve_left (not_not_intro hword.1)).resolve_left (not_not_intro hword.2)
    cases hr : Reg.atOffset (a - s.base n) with
    | none => simp [accessReg, hpow, hword, hr]
    | some r =>
      have hok : accessReg n a w s = .ok r := by simp [accessReg, hpow, hword, hr]
      exact absurd (eq_regAddr_of_accessReg hok) (haddr r)
  · simp [accessReg, hpow, hword]

theorem memRead_of_fault {n : InstNum} {a : Word} {w : Nat} {s : State} {f : Fault}
    (h : accessReg n a w s = .error f) : memRead n a w s = .error f := by
  simp [memRead, h]

/-- A write whose access faults only records the fault. -/
theorem memWrite_of_fault {n : InstNum} {a : Word} {w : Nat} {s : State} {f : Fault}
    (h : accessReg n a w s = .error f) (v : Word) : memWrite n a w v s = s.recordFault f := by
  simp [memWrite, h]

theorem recordFault_of_clean {s : State} (hf : s.faults = []) (f : Fault) :
    s.recordFault f = { s with faults := [f] } := by
  simp [State.recordFault, hf]

/-- Settles O45: the fault of the access is the read's answer and the write's only effect. -/
theorem undefinedAccessFaults : Obligations.UndefinedAccessFaults := by
  intro n a w v s _ hf
  have hfault {f : Fault} (h : accessReg n a w s = .error f) :
      memRead n a w s = .error f ∧ memWrite n a w v s = { s with faults := [f] } :=
    ⟨memRead_of_fault h, (memWrite_of_fault h v).trans (recordFault_of_clean hf f)⟩
  exact ⟨fun hoff => hfault (accessReg_unpowered hoff a w), fun hpow hbad => hfault (accessReg_badAccess hpow hbad)⟩

end Sys2Proof.Machine
end

section
/-! SUPPORT. The fields of a command word, the one word of each command, and legality in numbers (spec/30_encoding.md
R80 to R86), with the statements about the decoder and the encoder. -/

namespace Sys2Proof

/-! ### The fields of a word (R80) -/

@[simp] theorem toNat_opcField (w : Word) : (opcField w).toNat = w.toNat % 16 := by
  simp [opcField, BitVec.extractLsb'_toNat]

@[simp] theorem toNat_instField (w : Word) : (instField w).toNat = w.toNat / 16 % 16 := by
  simp [instField, BitVec.extractLsb'_toNat, Nat.shiftRight_eq_div_pow]

@[simp] theorem toNat_reservedField (w : Word) : (reservedField w).toNat = w.toNat / 256 := by
  have hw := w.isLt
  simp only [reservedField, BitVec.extractLsb'_toNat, Nat.shiftRight_eq_div_pow]
  omega

theorem reservedField_eq_zero_iff (w : Word) : reservedField w = 0 ↔ w.toNat / 256 = 0 := by
  rw [← BitVec.toNat_inj, toNat_reservedField]; rfl

/-- The three fields make up the whole word. -/
theorem eq_of_fields {v w : Word} (hr : reservedField v = reservedField w) (hi : instField v = instField w)
    (ho : opcField v = opcField w) : v = w := by
  simp only [← BitVec.toNat_inj, toNat_reservedField, toNat_instField, toNat_opcField] at hr hi ho
  exact BitVec.eq_of_toNat_eq (by omega)

/-! ### The word of a command (R81, R86) -/

theorem encode_fields (i : Instr) : Laws.EncodeFields.Statement i := by
  cases i with
  | construct n => exact Laws.EncodeFields.construct n
  | solve n => exact Laws.EncodeFields.solve n
  | setBitRate n => exact Laws.EncodeFields.setBitRate n
  | changeBaudRate n => exact Laws.EncodeFields.changeBaudRate n
  | initMsgObjects n => exact Laws.EncodeFields.initMsgObjects n
  | enable n => exact Laws.EncodeFields.enable n
  | disable n => exact Laws.EncodeFields.disable n
  | getBitTiming n => exact Laws.EncodeFields.getBitTiming n
  | release n => exact Laws.EncodeFields.release n

/-- The encoder's word is the only word with the command's fields. -/
theorem encode_eq_iff {i : Instr} {w : Word} :
    encode i = w ↔ reservedField w = 0 ∧ opcField w = i.opc ∧ instField w = i.inst := by
  obtain ⟨hopc, hinst, hres⟩ := encode_fields i
  constructor
  · rintro rfl
    exact ⟨hres, hopc, hinst⟩
  · rintro ⟨hr, ho, hi⟩
    exact eq_of_fields (hres.trans hr.symm) (hinst.trans hi.symm) (hopc.trans ho.symm)

/-! ### The decoder (R83) -/

theorem opc_bounds (i : Instr) : 1 ≤ i.opc.toNat ∧ i.opc.toNat ≤ 9 := by
  cases i <;> simp [Instr.opc]

theorem opcodeMap_eq_some_iff {opc : BitVec 4} {n : InstNum} {i : Instr} :
    opcodeMap opc n = some i ↔ opc = i.opc ∧ n = i.inst := by
  constructor
  · intro h
    unfold opcodeMap at h
    split at h <;> cases h
    all_goals exact ⟨BitVec.eq_of_toNat_eq ‹_›, rfl⟩
  · rintro ⟨rfl, rfl⟩
    cases i <;> rfl

/-- A word decodes to the one command whose encoding it is, if that command's instance exists. -/
theorem decode_eq_ok_iff {nInst : Nat} {w : Word} {i : Instr} :
    decode nInst w = .ok i ↔ encode i = w ∧ i.wf nInst = true := by
  rw [encode_eq_iff, ← opcodeMap_eq_some_iff]
  unfold decode
  split
  · next hr =>
    cases hmap : opcodeMap (opcField w) (instField w) with
    | none => simp
    | some j =>
      by_cases hj : j.wf nInst = true
      · simp only [hj, hr, if_true, true_and, Except.ok.injEq, Option.some.injEq]
        exact ⟨fun h => ⟨h, h ▸ hj⟩, And.left⟩
      · simp only [hj, hr, true_and, Option.some.injEq]
        exact ⟨nofun, fun ⟨h, hi⟩ => absurd (h ▸ hi) hj⟩
  · next hr => exact ⟨nofun, fun h => absurd h.1.1 hr⟩

/-- Settles O1. -/
theorem decodeOfEncode : Obligations.DecodeOfEncode :=
  fun _ _ hwf => decode_eq_ok_iff.2 ⟨rfl, hwf⟩

/-- Settles O2. -/
theorem encodeOfDecode : Obligations.EncodeOfDecode :=
  fun _ _ _ hd => decode_eq_ok_iff.1 hd

/-! ### Legality in numbers (R83) -/

/-- A legal word: w[31:8] = 0, an opcode of the map, and an instance that exists. -/
def LegalWord (nInst : Nat) (w : Word) : Prop :=
  w.toNat / 256 = 0 ∧ 1 ≤ w.toNat % 16 ∧ w.toNat % 16 ≤ 9 ∧ w.toNat / 16 % 16 < nInst

theorem Instr.wf_iff (nInst : Nat) (i : Instr) : i.wf nInst = true ↔ i.inst.toNat < nInst := decide_eq_true_iff

/-- A legal word decodes to the command with its opcode and its instance. -/
theorem LegalWord.decode_eq_ok {nInst : Nat} {w : Word} (h : LegalWord nInst w) (i : Instr)
    (hinst : instField w = i.inst) (hopc : w.toNat % 16 = i.opc.toNat) : decode nInst w = .ok i := by
  obtain ⟨hres, -, -, hlt⟩ := h
  have hfield : opcField w = i.opc := BitVec.eq_of_toNat_eq ((toNat_opcField w).trans hopc)
  refine decode_eq_ok_iff.2 ⟨encode_eq_iff.2 ⟨(reservedField_eq_zero_iff w).2 hres, hfield, hinst⟩, ?_⟩
  rwa [Instr.wf_iff, ← hinst, toNat_instField]

theorem legalWord_of_decode {nInst : Nat} {w : Word} {i : Instr} (h : decode nInst w = .ok i) : LegalWord nInst w := by
  obtain ⟨henc, hwf⟩ := decode_eq_ok_iff.1 h
  obtain ⟨hr, ho, hi⟩ := encode_eq_iff.1 henc
  have hopc := opc_bounds i
  rw [← ho, toNat_opcField] at hopc
  rw [Instr.wf_iff, ← hi, toNat_instField] at hwf
  exact ⟨(reservedField_eq_zero_iff w).1 hr, hopc.1, hopc.2, hwf⟩

theorem decode_error_of_illegal {nInst : Nat} {w : Word} (h : ¬ LegalWord nInst w) :
    ∃ e, decode nInst w = .error e := by
  cases hd : decode nInst w with
  | ok i => exact absurd (legalWord_of_decode hd) h
  | error e => exact ⟨e, rfl⟩

/-- Settles O3: a legal word's opcode picks its command of the map, and a word that decodes is legal. -/
theorem legalWordsAreExactlyTheOpcodeMap : Obligations.LegalWordsAreExactlyTheOpcodeMap := by
  refine fun nInst w => ⟨fun (h : LegalWord nInst w) => ⟨instField w, toNat_instField w, ?_⟩,
    decode_error_of_illegal⟩
  exact ⟨h.decode_eq_ok (.construct _) rfl, h.decode_eq_ok (.solve _) rfl, h.decode_eq_ok (.setBitRate _) rfl,
    h.decode_eq_ok (.changeBaudRate _) rfl, h.decode_eq_ok (.initMsgObjects _) rfl, h.decode_eq_ok (.enable _) rfl,
    h.decode_eq_ok (.disable _) rfl, h.decode_eq_ok (.getBitTiming _) rfl, h.decode_eq_ok (.release _) rfl⟩

/-- Settles O4, by evaluating the decoder on the nine words. -/
theorem vectorWordsDecode : Obligations.VectorWordsDecode := by
  unfold Obligations.VectorWordsDecode
  decide

end Sys2Proof
end

section
/-! SUPPORT. The bit-timing fields in numbers (spec/30_encoding.md R87, R88), with the statements about their encoding
and their read-back. -/

namespace Sys2Proof.Machine

/-- A field of fewer than eleven bits, plus 1, fits a result register. -/
theorem toNat_setWidth_add_one {k : Nat} (hk : k < 11) (x : BitVec k) :
    (x.setWidth 11 + 1 : ResField).toNat = x.toNat + 1 := by
  have hx : x.toNat < 2 ^ 10 := x.isLt.trans_le (Nat.pow_le_pow_right (by decide) (by omega))
  rw [BitVec.toNat_add, BitVec.toNat_setWidth_of_le (by omega)]
  exact Nat.mod_eq_of_lt (show x.toNat + 1 < 2048 by omega)

theorem toNat_decodeSeg1 (b : Word) : (decodeSeg1 b).toNat = b.toNat / 2 ^ 8 % 16 + 1 := by
  rw [decodeSeg1, toNat_setWidth_add_one (by decide), BitVec.extractLsb'_toNat, Nat.shiftRight_eq_div_pow]

theorem toNat_decodeSeg2 (b : Word) : (decodeSeg2 b).toNat = b.toNat / 2 ^ 12 % 16 + 1 := by
  rw [decodeSeg2, toNat_setWidth_add_one (by decide), BitVec.extractLsb'_toNat, Nat.shiftRight_eq_div_pow]

theorem toNat_decodeSjw (b : Word) : (decodeSjw b).toNat = b.toNat / 2 ^ 6 % 4 + 1 := by
  rw [decodeSjw, toNat_setWidth_add_one (by decide), BitVec.extractLsb'_toNat, Nat.shiftRight_eq_div_pow]

theorem toNat_decodePd (b e : Word) : (decodePd b e).toNat = e.toNat % 16 * 64 + b.toNat % 64 + 1 := by
  rw [decodePd, toNat_setWidth_add_one (by decide), BitVec.toNat_append, shiftLeft_or (BitVec.isLt _),
    BitVec.extractLsb'_toNat, BitVec.extractLsb'_toNat]
  rfl

/-- Settles O6. -/
theorem readBackDecoding : Obligations.ReadBackDecoding :=
  fun b e => ⟨toNat_decodeSeg1 b, toNat_decodeSeg2 b, toNat_decodeSjw b, toNat_decodePd b e⟩

/-- BRPE holds the four bits of the pre-divisor above BIT's six. -/
theorem toNat_encodeBrpe {pd : Nat} (h : pd ≤ 1024) : (encodeBrpe pd).toNat = (pd - 1) / 64 := by
  have hmask := Nat.and_two_pow_sub_one_eq_mod ((pd - 1) / 64) 4
  have hraw : (BitVec.ofNat 32 (pd - 1)).toNat = pd - 1 := by
    rw [BitVec.toNat_ofNat]
    omega
  rw [encodeBrpe, BitVec.toNat_and, BitVec.toNat_ushiftRight, hraw, Nat.shiftRight_eq_div_pow]
  exact hmask.trans (by omega)

/-- Settles O5: each field is read back from where it was put, the pre-divisor's ten bits from BIT and BRPE. -/
theorem timingFieldsRoundTrip : Obligations.TimingFieldsRoundTrip := by
  intro e pd he hlo hhi
  have hbit := toNat_encodeBit he pd
  obtain ⟨h1, h1', h2, h2', h3, h3'⟩ := he
  rw [toNat_decodeSeg1, toNat_decodeSeg2, toNat_decodeSjw, toNat_decodePd, hbit, toNat_encodeBrpe hhi]
  omega

end Sys2Proof.Machine
end

section
/-! SUPPORT. An illegal word at the idle port (spec/30_encoding.md R84), and the word placed for the next step (R86),
with the statements about them. -/

namespace Sys2Proof.Machine

theorem hostMove_of_illegal {s : State} {h : HostCmd} (hs : s.Idle) (hw : ¬ LegalWord s.params.nInst h.word) :
    hostMove h s = .next (s.latch h).refuseIllegal := by
  obtain ⟨hb, hf⟩ := hs
  obtain ⟨e, hd⟩ := decode_error_of_illegal hw
  simp [hostMove, hb, hf, hd]

/-- Settles O9: the refusal writes STATUS and the mark alone, after the host's own writes. -/
theorem illegalWordIsRefused : Obligations.IllegalWordIsRefused := by
  intro s h rest he hs hw
  refine ⟨((s.setEnv rest).latch h).refuseIllegal, ?_, ⟨hs.1, rfl⟩, rfl, rfl, ⟨rfl, rfl, rfl, rfl, rfl⟩,
    ⟨rfl, rfl, rfl⟩, rfl, rfl, rfl, rfl, rfl⟩
  rw [step_of_env_host he]
  exact hostMove_of_illegal (s := s.setEnv rest) hs hw

theorem withFetchWord_toNat (s : State) (w : Word) : s.withFetchWord 32 w.toNat = s.present w := by
  rw [State.withFetchWord, Nat.mod_eq_of_lt w.isLt, BitVec.ofNat_toNat, BitVec.setWidth_eq]

/-- Settles O8: the next move is the host's, on an idle port, and it presents the placed word. -/
theorem placedWordRunsNext : Obligations.PlacedWordRunsNext := by
  intro s w i hd
  rw [withFetchWord_toNat, step_of_env_host (s := s.present w) rfl]
  exact hostMove_eq_exec (s := (s.present w).setEnv s.env) rfl hd

end Sys2Proof.Machine
end

section
/-! SUPPORT. The bit-rate search (spec/40_solver.md R103 to R107): the start ratio, the candidate test, the ratio loop
and the solver, one lemma per answer, with the statements about them (R108 to R110) and about SOLVE. -/

namespace Sys2Proof.Machine

open Sys2Proof.Config

/-! ### The start ratio (R103) -/

theorem startRatio_rounded {clk rate : Nat} (h : clk / rate = 0 ∨ rate < clk / (clk / rate)) :
    startRatio clk rate = clk / rate + 1 := if_pos h

theorem startRatio_exact {clk rate : Nat} (h : ¬ (clk / rate = 0 ∨ rate < clk / (clk / rate))) :
    startRatio clk rate = clk / rate := if_neg h

theorem startRatio_pos (clk rate : Nat) : 1 ≤ startRatio clk rate := by
  by_cases h : clk / rate = 0 ∨ rate < clk / (clk / rate)
  · rw [startRatio_rounded h]; exact Nat.succ_pos _
  · rw [startRatio_exact h]; exact Nat.pos_of_ne_zero (not_or.1 h).1

/-- At the start ratio the achieved rate does not exceed the target (R109). -/
theorem div_startRatio_le {clk rate : Nat} (hr : rate ≠ 0) : clk / startRatio clk rate ≤ rate := by
  by_cases h : clk / rate = 0 ∨ rate < clk / (clk / rate)
  · rw [startRatio_rounded h]
    refine Nat.div_le_of_le_mul ?_
    rw [Nat.mul_comm]
    exact (Nat.lt_mul_div_succ clk (Nat.pos_of_ne_zero hr)).le
  · rw [startRatio_exact h]; exact Nat.le_of_not_lt (not_or.1 h).2

/-- Rounding up a ratio `r0 ≠ 0` means that `clk` is at least twice `r0`, so the start stays within `clk`. -/
theorem startRatio_le_max {clk rate : Nat} (hr : rate ≠ 0) : startRatio clk rate ≤ max clk 1 := by
  by_cases h : clk / rate = 0 ∨ rate < clk / (clk / rate)
  · rw [startRatio_rounded h]
    obtain h0 | hfast := h
    · omega
    · have htwice : 2 * (clk / rate) ≤ clk :=
        (Nat.mul_le_mul_right _ (by omega)).trans (Nat.div_mul_le_self clk (clk / rate))
      omega
  · rw [startRatio_exact h]
    exact (Nat.div_le_self clk rate).trans (le_max_left clk 1)

/-- Settles O16. -/
theorem startRatioIsRoundedUp : Obligations.StartRatioIsRoundedUp := by
  intro clk rate hr
  refine ⟨startRatio_rounded, startRatio_exact, startRatio_pos clk rate, div_startRatio_le hr, fun hclk _ => ?_⟩
  have hle := startRatio_le_max (clk := clk) hr
  omega

/-! ### The candidate test of one ratio (R104) -/

/-- A candidate `q` the search takes for the ratio `r`: it divides `r` with a quotient of at most PD_MAX. -/
def Accepts (r q : Nat) : Prop := r % q = 0 ∧ r / q ≤ pdMax

theorem quanta_bounds (k : QuantaIdx) : 4 ≤ quanta k ∧ quanta k ≤ 19 := by
  unfold quanta qpbMin; omega

theorem quanta_lt_iff {j k : QuantaIdx} : quanta j < quanta k ↔ j < k := Nat.add_lt_add_iff_right

theorem exists_quanta {q : Nat} (hlo : 4 ≤ q) (hhi : q ≤ 19) : ∃ k, quanta k = q :=
  ⟨⟨q - 4, by omega⟩, Nat.sub_add_cancel hlo⟩

theorem mem_quantaDown (k : QuantaIdx) : k ∈ quantaDown := by revert k; decide

/-- The search tries the candidates from the largest down. -/
theorem quantaDown_decreasing : quantaDown.Pairwise (· > ·) := by decide

/-- The candidate test answers the largest `q` it takes. -/
theorem acceptRatio_eq_some {r : Nat} {k : QuantaIdx} (h : acceptRatio r = some k) :
    Accepts r (quanta k) ∧ ∀ j, k < j → ¬ Accepts r (quanta j) := by
  obtain ⟨hk, before, after, hlist, hbefore⟩ := List.find?_eq_some_iff_append.1 h
  refine ⟨by simpa [Accepts] using hk, fun j hj => ?_⟩
  have hafter : ∀ a ∈ after, k > a := by
    have hsorted := quantaDown_decreasing
    rw [hlist] at hsorted
    exact (List.pairwise_cons.1 (List.pairwise_append.1 hsorted).2.1).1
  have hmem : j ∈ before ∨ j = k ∨ j ∈ after := by simpa [hlist] using mem_quantaDown j
  obtain hj' | rfl | hj' := hmem
  · simpa [Accepts, imp_iff_not_or] using hbefore j hj'
  · exact absurd hj (lt_irrefl _)
  · exact absurd hj (hafter j hj').not_gt

theorem not_accepts_of_acceptRatio_none {r q : Nat} (h : acceptRatio r = none) (hlo : 4 ≤ q) (hhi : q ≤ 19) :
    ¬ Accepts r q := by
  obtain ⟨k, rfl⟩ := exists_quanta hlo hhi
  simpa [Accepts] using List.find?_eq_none.1 h k (mem_quantaDown k)

/-- A larger divisor has a smaller quotient, so no divisor is larger than the candidate taken (R110). -/
theorem le_quanta_of_acceptRatio {r q : Nat} {k : QuantaIdx} (h : acceptRatio r = some k) (hlo : 4 ≤ q) (hhi : q ≤ 19)
    (hdvd : r % q = 0) : q ≤ quanta k := by
  obtain ⟨⟨-, hquot⟩, hlargest⟩ := acceptRatio_eq_some h
  obtain ⟨j, rfl⟩ := exists_quanta hlo hhi
  by_contra hlt
  rw [Nat.not_le] at hlt
  have hle : r / quanta j ≤ r / quanta k := Nat.div_le_div_left hlt.le (by have := quanta_bounds k; omega)
  exact hlargest j (quanta_lt_iff.1 hlt) ⟨hdvd, hle.trans hquot⟩

/-! ### The ratio loop (R104, R108) -/

theorem searchFrom_eq_some {fuel r₀ r : Nat} {k : QuantaIdx} (h : searchFrom fuel r₀ = some (r, k)) :
    r₀ ≤ r ∧ r < r₀ + fuel ∧ acceptRatio r = some k ∧ ∀ r', r₀ ≤ r' → r' < r → acceptRatio r' = none := by
  induction fuel generalizing r₀ with
  | zero => cases h
  | succ fuel ih =>
    rw [searchFrom] at h
    cases ha : acceptRatio r₀ with
    | some k' =>
      rw [ha] at h
      cases h
      exact ⟨le_rfl, by omega, ha, fun r' hlo hhi => by omega⟩
    | none =>
      rw [ha] at h
      obtain ⟨hle, hlt, hr, hleast⟩ := ih h
      refine ⟨by omega, by omega, hr, fun r' hlo hhi => ?_⟩
      obtain rfl | hne := eq_or_ne r' r₀
      · exact ha
      · exact hleast r' (by omega) hhi

theorem searchFrom_eq_none {fuel r₀ r : Nat} (h : searchFrom fuel r₀ = none) (hlo : r₀ ≤ r) (hhi : r < r₀ + fuel) :
    acceptRatio r = none := by
  induction fuel generalizing r₀ with
  | zero => omega
  | succ fuel ih =>
    rw [searchFrom] at h
    cases ha : acceptRatio r₀ with
    | some k => rw [ha] at h; cases h
    | none =>
      rw [ha] at h
      obtain rfl | hne := eq_or_ne r r₀
      · exact ha
      · exact ih h (by omega) (by omega)

/-- MAX_RATIO itself is accepted, with q = 19 and the quotient 1024. -/
theorem acceptRatio_maxRatio : acceptRatio maxRatio = some 15 := by decide

/-- What a successful search answers: the least ratio from the start that has a candidate. -/
theorem search_eq_some {clk rate r : Nat} {k : QuantaIdx} (h : search clk rate = some (r, k)) :
    startRatio clk rate ≤ r ∧ r ≤ 19456 ∧ acceptRatio r = some k ∧
      ∀ r', startRatio clk rate ≤ r' → r' < r → acceptRatio r' = none := by
  obtain ⟨hle, hlt, hr, hleast⟩ := searchFrom_eq_some h
  exact ⟨hle, by unfold maxRatio at hlt; omega, hr, hleast⟩

theorem search_isSome_iff (clk rate : Nat) : (search clk rate).isSome = true ↔ startRatio clk rate ≤ 19456 := by
  constructor
  · intro h
    obtain ⟨⟨r, k⟩, hs⟩ := Option.isSome_iff_exists.1 h
    obtain ⟨hle, hmax, -⟩ := search_eq_some hs
    exact hle.trans hmax
  · intro h
    cases hs : search clk rate with
    | some _ => rfl
    | none =>
      have hmax := searchFrom_eq_none (r := maxRatio) hs h (by unfold maxRatio; omega)
      rw [acceptRatio_maxRatio] at hmax
      cases hmax

/-- Settles O13. -/
theorem searchAcceptsTheLeastRatio : Obligations.SearchAcceptsTheLeastRatio := by
  intro clk rate _
  refine ⟨search_isSome_iff clk rate, fun r k h => ?_⟩
  obtain ⟨hle, hmax, hr, hleast⟩ := search_eq_some h
  obtain ⟨⟨hdvd, hquot⟩, -⟩ := acceptRatio_eq_some hr
  exact ⟨hle, hmax, hdvd, hquot, fun r' hlo hhi q => not_accepts_of_acceptRatio_none (hleast r' hlo hhi)⟩

/-! ### The solver (R105 to R107) -/

theorem solveFor_eq_some {table : Vector TimingEntry 16} {clk rate : Nat} {sol : Solution}
    (h : solveFor table clk rate = some sol) :
    rate ≠ 0 ∧ search clk rate = some (sol.ratio, sol.qIdx) ∧ sol.pd = sol.ratio / quanta sol.qIdx ∧
      sol.entry = table[sol.qIdx] := by
  unfold solveFor at h
  split at h
  · cases h
  · next hr =>
    split at h
    · cases h
    · next r k hs => cases h; exact ⟨hr, hs, rfl, rfl⟩

/-- The solver fails on the rate 0 and on a start ratio past MAX_RATIO (R107). -/
theorem solveFor_eq_none {table : Vector TimingEntry 16} {clk rate : Nat}
    (h : rate = 0 ∨ 19456 < startRatio clk rate) : solveFor table clk rate = none := by
  cases hs : solveFor table clk rate with
  | none => rfl
  | some sol =>
    obtain ⟨hr, hsearch, -⟩ := solveFor_eq_some hs
    have hstart := (search_isSome_iff clk rate).1 (by rw [hsearch]; rfl)
    omega

/-- Settles O14. -/
theorem searchTakesTheLargestDivisor : Obligations.SearchTakesTheLargestDivisor := by
  intro table clk rate sol h
  obtain ⟨-, hs, hpd, -⟩ := solveFor_eq_some h
  obtain ⟨-, -, hr, -⟩ := search_eq_some hs
  obtain ⟨⟨hdvd, -⟩, -⟩ := acceptRatio_eq_some hr
  exact ⟨(quanta_bounds _).1, (quanta_bounds _).2, hdvd, fun q => le_quanta_of_acceptRatio hr, hpd⟩

theorem toNat_achieved (clk : Word) (sol : Solution) :
    (achieved clk sol).toNat = clk.toNat / (sol.pd * quanta sol.qIdx) := by
  rw [achieved, BitVec.toNat_ofNat]
  exact Nat.mod_eq_of_lt ((Nat.div_le_self ..).trans_lt clk.isLt)

/-- Settles O15: the rate at the start is at most the target, and the accepted ratio is no smaller (R109). -/
theorem achievedRateIsAtMostTheTarget : Obligations.AchievedRateIsAtMostTheTarget := by
  intro table clk rate sol h
  obtain ⟨hrate, hs, hpd, hentry⟩ := solveFor_eq_some h
  obtain ⟨hle, -, hr, -⟩ := search_eq_some hs
  obtain ⟨⟨hdvd, hquot⟩, -⟩ := acceptRatio_eq_some hr
  have hstart := startRatio_pos clk.toNat rate.toNat
  have hmul : sol.pd * quanta sol.qIdx = sol.ratio := by
    rw [hpd]; exact Nat.div_mul_cancel (Nat.dvd_of_mod_eq_zero hdvd)
  have hpos : 1 ≤ sol.pd := by
    refine Nat.pos_of_ne_zero fun h0 => ?_
    rw [h0, Nat.zero_mul] at hmul
    omega
  rw [toNat_achieved, hmul]
  exact ⟨rfl, (Nat.div_le_div_left hle hstart).trans (div_startRatio_le hrate), rfl, hpos, hpd ▸ hquot, hentry⟩

/-! ### The first micro-operation of the commands that need a rate (R102, R107) -/

theorem solveMicro_of_solution {s : State} {sol : Solution} (hk : s.seqStep = 0) (h : s.solution = some sol) :
    solveMicro s = .next (((s.setResRate (achieved s.arg0 sol)).setResTiming (BitVec.ofNat 11 sol.entry.seg1)
      (BitVec.ofNat 11 sol.entry.seg2) (BitVec.ofNat 11 sol.entry.sjw) (BitVec.ofNat 11 sol.pd)).finish statusOk) := by
  simp only [solveMicro, hk, h]

theorem solveMicro_of_no_solution {s : State} (hk : s.seqStep = 0) (h : s.solution = none) :
    solveMicro s = .next (s.finish statusBitrateNotFound) := by
  simp only [solveMicro, hk, h]

theorem setBitRateMicro_of_no_solution {s : State} (hk : s.seqStep = 0) (h : s.solution = none) (n : InstNum) :
    setBitRateMicro n s = .next (s.finish statusBitrateNotFound) := by
  simp only [setBitRateMicro, hk, h]

theorem changeBaudRateMicro_of_zero_rate {s : State} (hk : s.seqStep = 0) (h : s.arg1 = 0) (n : InstNum) :
    changeBaudRateMicro n s = .next (s.finish statusBitrateNotFound) := by
  simp only [changeBaudRateMicro, hk, if_pos h]

/-- Settles O17. -/
theorem solveWritesItsResults : Obligations.SolveWritesItsResults := by
  intro n s sol ⟨hb, hf, hk⟩ h
  exact (exec_running hb hf _).trans (solveMicro_of_solution hk h)

/-- Settles O18: without a solution the first micro-operation of each command does nothing but end it. -/
theorem bitrateNotFoundChangesNothingElse : Obligations.BitrateNotFoundChangesNothingElse := by
  intro n s ⟨hb, hf, hk⟩
  refine ⟨fun h => ?_, fun h => (exec_running hb hf _).trans (changeBaudRateMicro_of_zero_rate hk h n)⟩
  have hnone : s.solution = none := solveFor_eq_none (h.imp_left (congrArg BitVec.toNat))
  exact ⟨(exec_running hb hf _).trans (solveMicro_of_no_solution hk hnone),
    (exec_running hb hf _).trans (setBitRateMicro_of_no_solution hk hnone n)⟩

/-- Settles O59: the default parameters are well formed, and each of the sixteen default entries is evaluated. -/
theorem defaultParametersAreAdmitted : Obligations.DefaultParametersAreAdmitted :=
  ⟨defaultParams_wf, by decide⟩

end Sys2Proof.Machine
end

section
/-! SUPPORT. A command under way: one state form that a running command keeps from one micro-operation to the next, and
what its end leaves alone, for the statements about the controller's commands (spec/41_controller.md). -/

namespace Sys2Proof.Machine

open Sys2Proof.Config

/-! ### What other registers and peripherals read -/

theorem memRead_of_same_inst {m : InstNum} {s t : State} (hi : t.inst m = s.inst m) (hp : t.params = s.params)
    (a : Word) (w : Nat) : memRead m a w t = memRead m a w s :=
  memRead_congr hp (by rw [hi]) fun _ _ => by rw [hi]

/-- The memory frame, from what the registers of the one peripheral read (spec/20_memory.md R62). -/
theorem sameMemoryBut_of_reads {n : InstNum} {rs : List Reg} {s t : State} (ho : SameOthers n s t)
    (hp : t.params = s.params) (hpow : (t.inst n).powered = (s.inst n).powered)
    (hread : ∀ r ∉ rs, (t.inst n).read r = (s.inst n).read r) : SameMemoryBut n rs s t := by
  intro m a w hne
  by_cases hm : m = n
  · subst hm
    exact memRead_congr hp hpow fun r ha => hread r fun hr => hne ⟨rfl, r, hr, ha⟩
  · exact memRead_of_same_inst (ho m hm) hp a w

/-! ### The state of a command under way -/

/-- A command of peripheral `n` under way from `s`: the peripheral holds `x`, the next micro-operation is `k`, and the
internal registers hold `l`. -/
def State.midway (s : State) (n : InstNum) (x : CanInst) (k : Nat) (l : Locals) : State :=
  { s.setInst n x with seqStep := k, loc := l }

theorem midway_self {s : State} {k : Nat} (hk : s.seqStep = k) (n : InstNum) :
    s.midway n (s.inst n) k s.loc = s := by
  rw [State.midway, setInst_inst, ← hk]

@[simp] theorem midway_inst_self (s : State) (n : InstNum) (x : CanInst) (k : Nat) (l : Locals) :
    (s.midway n x k l).inst n = x :=
  inst_setInst_self s n x

@[simp] theorem midway_seqStep (s : State) (n : InstNum) (x : CanInst) (k : Nat) (l : Locals) :
    (s.midway n x k l).seqStep = k := rfl

theorem midway_sameOthers (s : State) (n : InstNum) (x : CanInst) (k : Nat) (l : Locals) :
    SameOthers n s (s.midway n x k l) :=
  fun _ hm => inst_setInst_ne s x hm

theorem midway_setInst (s : State) (n : InstNum) (x y : CanInst) (k : Nat) (l : Locals) :
    (s.midway n x k l).setInst n y = s.midway n y k l :=
  congrArg (fun u : State => { u with seqStep := k, loc := l }) (setInst_setInst s n x y)

theorem midway_setPhase (s : State) (n : InstNum) (x : CanInst) (k : Nat) (l : Locals) (p : Phase) :
    (s.midway n x k l).setPhase n p = s.midway n (x.setPhase p) k l := by
  rw [State.setPhase, midway_setInst, midway_inst_self]

theorem midway_sameMemoryBut {s : State} {n : InstNum} {x : CanInst} {rs : List Reg}
    (hpow : x.powered = (s.inst n).powered) (hread : ∀ r ∉ rs, x.read r = (s.inst n).read r) (k : Nat) (l : Locals) :
    SameMemoryBut n rs s (s.midway n x k l) :=
  sameMemoryBut_of_reads (midway_sameOthers s n x k l) rfl (by rwa [midway_inst_self])
    (by rwa [midway_inst_self])

theorem withRead_midway {s : State} (hp : s.params.Wf) {x : CanInst} (hpow : x.powered = true) (n : InstNum) (r : Reg)
    (next : Word → State → State) (k : Nat) (l : Locals) :
    withRead n r next (s.midway n x k l) = .next (next (x.read r) (s.midway n x k l)) := by
  rw [withRead_next (s := s.midway n x k l) hp (by rwa [midway_inst_self]), midway_inst_self]

/-- A write to CTL, BIT or BRPE of a command under way. -/
theorem withWrite_midway {s : State} (hp : s.params.Wf) (hf : s.faults = []) {x : CanInst} (hpow : x.powered = true)
    (n : InstNum) {r : Reg} (hr : r.isIf1 = false) (v : Word) (next : State → State) (k : Nat) (l : Locals) :
    withWrite n r v next (s.midway n x k l) =
      .next (next (s.midway n (x.store s.params.writeProtect r v) k l)) := by
  rw [withWrite_of_not_if1 (s := s.midway n x k l) hp (by rwa [midway_inst_self]) hf hr, midway_inst_self, midway_setInst]
  rfl

/-! ### Consecutive executions -/

/-- A micro-operation of a running command is its next execution. -/
theorem execRun_running (i : Instr) {s t : State} (h : microOf i s = .next t) (hb : s.cmdBusy = true)
    (hf : s.faults = []) (k : Nat) : execRun i (k + 1) s = execRun i k t := by
  rw [execRun, exec_running hb hf, h]

theorem execRun_presented {i : Instr} {s : State} (hb : s.cmdBusy = false) (hf : s.faults = [])
    (hg : gateOf i (s.inst i.inst).phase = true) (k : Nat) : execRun i (k + 1) s = execRun i k (takeOf i s) := by
  rw [execRun, exec_presented hb hf, if_pos hg]

theorem execRun_two {i : Instr} {s m t : State} (hm : exec i s = .next m) (ht : exec i m = .next t) :
    execRun i 2 s = .next t := by
  simp only [execRun, hm, ht]

/-! ### Control words and configuration (spec/10_state.md R21, R22, R29) -/

theorem read_ctl_and_writable (x : CanInst) : x.read .ctl &&& Reg.ctl.writable = x.read .ctl :=
  read_within_impl x .ctl

theorem read_store_ctl (x : CanInst) (p : Bool) (v : Word) : (x.store p .ctl v).read .ctl = v &&& Reg.ctl.writable :=
  read_store_of_not_timing x p rfl (by decide) v

theorem writeEnabled_of_configuringBits {x : CanInst} (h : PhaseBits .configuring (x.read .ctl)) (p : Bool) (r : Reg) :
    x.writeEnabled p r = true :=
  (writeEnabled_iff ..).2 fun _ _ => h

theorem toNat_and_bit_writable (v : Word) : (v &&& Reg.bit.writable).toNat = v.toNat % 2 ^ 16 := by
  rw [BitVec.toNat_and]
  exact Nat.and_two_pow_sub_one_eq_mod v.toNat 16

theorem toNat_and_brpe_writable (v : Word) : (v &&& Reg.brpe.writable).toNat = v.toNat % 2 ^ 4 := by
  rw [BitVec.toNat_and]
  exact Nat.and_two_pow_sub_one_eq_mod v.toNat 4

/-- The peripheral with a control word written on entry to CONFIGURING. -/
def CanInst.enterConfiguring (x : CanInst) (p : Bool) (v : Word) : CanInst :=
  (x.store p .ctl v).setPhase .configuring

@[simp] theorem enterConfiguring_phase (x : CanInst) (p : Bool) (v : Word) :
    (x.enterConfiguring p v).phase = .configuring := rfl

@[simp] theorem enterConfiguring_powered (x : CanInst) (p : Bool) (v : Word) :
    (x.enterConfiguring p v).powered = x.powered := store_powered ..

@[simp] theorem enterConfiguring_pending (x : CanInst) (p : Bool) (v : Word) :
    (x.enterConfiguring p v).pending = x.pending := store_pending ..

@[simp] theorem enterConfiguring_objects (x : CanInst) (p : Bool) (v : Word) :
    (x.enterConfiguring p v).objects = x.objects := store_objects ..

theorem read_enterConfiguring_ctl (x : CanInst) (p : Bool) (v : Word) :
    (x.enterConfiguring p v).read .ctl = v &&& Reg.ctl.writable :=
  (read_setPhase ..).trans (read_store_ctl x p v)

theorem read_enterConfiguring_ne (x : CanInst) (p : Bool) (v : Word) {r : Reg} (hr : r ≠ .ctl) :
    (x.enterConfiguring p v).read r = x.read r :=
  (read_setPhase ..).trans (read_store_ne x p hr v)

/-- In CONFIGURING the timing registers take their writes, whatever TIMING_WRITE_PROTECT is (R29). -/
theorem enterConfiguring_writeEnabled (x : CanInst) (p : Bool) {v : Word} (hv : PhaseBits .configuring v) (r : Reg) :
    (x.enterConfiguring p v).writeEnabled p r = true :=
  writeEnabled_of_configuringBits (by rwa [read_enterConfiguring_ctl, phaseBits_writable]) p r

end Sys2Proof.Machine
end

section
/-! SUPPORT. ENABLE, DISABLE and RELEASE by DISABLE: one read and one write of CTL (spec/41_controller.md R155 to R157,
R165). -/

namespace Sys2Proof.Machine

open Sys2Proof.Config

/-! ### Words that lie within CTL's bits -/

theorem clear_and_writable {c : Word} (hc : c &&& Reg.ctl.writable = c) (m : Word) :
    (c &&& m) &&& Reg.ctl.writable = c &&& m := by
  rw [BitVec.and_assoc, BitVec.and_comm m, ← BitVec.and_assoc, hc]

theorem set_and_writable {c m : Word} (hc : c &&& Reg.ctl.writable = c) (hm : m &&& Reg.ctl.writable = m) :
    (c ||| m) &&& Reg.ctl.writable = c ||| m := by
  rw [BitVec.and_or_distrib_right, hc, hm]

/-! ### A command of one read and one write of CTL -/

/-- From `s`, at its first micro-operation, command `i` reads CTL, writes `f` of it and ends in phase `p`. -/
structure UpdatesCtl (i : Instr) (f : Word → Word) (p : Phase) (s : State) : Prop where
  reads : microOf i s = withRead i.inst .ctl (fun v t => (t.setLoc { t.loc with c := v }).advance) s
  writes : ∀ m : State, m.params = s.params → m.seqStep = 1 →
    microOf i m = withWrite i.inst .ctl (f m.loc.c) (fun t => (t.setPhase i.inst p).finish statusOk) m

theorem enable_updatesCtl {s : State} (hk : s.seqStep = 0) (n : InstNum) :
    UpdatesCtl (.enable n) (· &&& ~~~ctlInit) .enabled s where
  reads := by simp only [microOf, enableMicro, hk]; rfl
  writes m _ hm := by simp only [microOf, enableMicro, hm]; rfl

theorem disable_updatesCtl {s : State} (hk : s.seqStep = 0) (n : InstNum) :
    UpdatesCtl (.disable n) (· ||| ctlInit) .disabled s where
  reads := by simp only [microOf, disableMicro, hk]; rfl
  writes m _ hm := by simp only [microOf, disableMicro, hm]; rfl

theorem release_updatesCtl {s : State} (hk : s.seqStep = 0) (htd : s.params.teardown = .disable) (n : InstNum) :
    UpdatesCtl (.release n) (· ||| ctlInit) .released s where
  reads := by simp only [microOf, releaseMicro, htd, releaseDisableMicro, hk]; rfl
  writes m hparams hm := by simp only [microOf, releaseMicro, hparams, htd, releaseDisableMicro, hm]; rfl

/-- Where such a command of peripheral `n` ends, having written `v`. -/
def State.ctlUpdated (s : State) (n : InstNum) (v : Word) (p : Phase) : State :=
  (s.midway n (((s.inst n).store s.params.writeProtect .ctl v).setPhase p) 1 Locals.idle).finish statusOk

theorem ctlUpdated_inst (s : State) (n : InstNum) (v : Word) (p : Phase) :
    (s.ctlUpdated n v p).inst n = ((s.inst n).store s.params.writeProtect .ctl v).setPhase p :=
  (finish_inst ..).trans (midway_inst_self ..)

theorem ctlUpdated_read_ctl (s : State) (n : InstNum) (p : Phase) {v : Word} (hv : v &&& Reg.ctl.writable = v) :
    ((s.ctlUpdated n v p).inst n).read .ctl = v := by
  rw [ctlUpdated_inst, read_setPhase, read_store_ctl, hv]

/-- The whole frame of such a command. -/
theorem ctlUpdated_frame (s : State) (n : InstNum) (p : Phase) {v : Word} (hv : v &&& Reg.ctl.writable = v) :
    let t := s.ctlUpdated n v p
    t.Ended 0x00 ∧ (t.inst n).phase = p ∧ (t.inst n).read .ctl = v ∧
      SameTransfer n s t ∧ SameOthers n s t ∧ SamePort s t ∧ SameResults s t ∧ SameLoops s t ∧
      t.savedCtl = s.savedCtl ∧ t.freeCtr = s.freeCtr ∧ SameMemoryBut n [.ctl] s t := by
  refine ⟨⟨rfl, rfl⟩, ?phase, ctlUpdated_read_ctl s n p hv, ?transfer, midway_sameOthers s n _ 1 Locals.idle,
    ⟨rfl, rfl, rfl, rfl, rfl, rfl, rfl⟩, ⟨rfl, rfl, rfl, rfl, rfl⟩, ⟨rfl, rfl, rfl⟩, rfl, rfl, ?memory⟩
  case phase => simp [ctlUpdated_inst]
  case transfer => simp [SameTransfer, ctlUpdated_inst]
  case memory =>
    refine midway_sameMemoryBut (by simp) (fun r hr => ?_) 1 Locals.idle
    rw [read_setPhase, read_store_ne _ _ (by simpa using hr)]

theorem UpdatesCtl.runs {i : Instr} {f : Word → Word} {p : Phase} {s : State} (h : UpdatesCtl i f p s)
    (hp : s.params.Wf) (hs : s.RunsAt 0) (hpow : (s.inst i.inst).powered = true) :
    ∃ m, exec i s = .next m ∧ exec i m = .next (s.ctlUpdated i.inst (f ((s.inst i.inst).read .ctl)) p) := by
  obtain ⟨hb, hf, hk⟩ := hs
  let m := s.midway i.inst (s.inst i.inst) 1 { s.loc with c := (s.inst i.inst).read .ctl }
  refine ⟨m, ?_, ?_⟩
  · rw [exec_running hb hf, h.reads, ← midway_self hk i.inst, withRead_midway hp hpow]
    rfl
  · rw [exec_running (s := m) hb hf, h.writes m rfl rfl, withWrite_midway hp hf hpow i.inst rfl, midway_setPhase]
    rfl

/-- The same control word and phase written again change nothing more. -/
theorem store_ctl_setPhase_again (x : CanInst) (pr : Bool) (v : Word) (p : Phase) :
    (((x.store pr .ctl v).setPhase p).store pr .ctl v).setPhase p = (x.store pr .ctl v).setPhase p := by
  simp only [store_of_enabled (writeEnabled_of_not_timing _ pr (r := .ctl) rfl)]
  rfl

theorem ctlUpdated_again (s : State) (n : InstNum) (v : Word) (p : Phase) :
    (s.ctlUpdated n v p).accept.ctlUpdated n v p = s.ctlUpdated n v p := by
  have hinst := store_ctl_setPhase_again (s.inst n) s.params.writeProtect v p
  rw [← ctlUpdated_inst s n v p] at hinst
  calc (s.ctlUpdated n v p).accept.ctlUpdated n v p
    _ = ((s.ctlUpdated n v p).accept.midway n ((s.ctlUpdated n v p).inst n) 1 Locals.idle).finish statusOk :=
      congrArg (fun x => ((s.ctlUpdated n v p).accept.midway n x 1 Locals.idle).finish statusOk) hinst
    _ = s.ctlUpdated n v p :=
      congrArg (fun u : State => { u with seqStep := 1, status := statusOk, cmdBusy := false, loc := Locals.idle })
        (setInst_inst (s.ctlUpdated n v p) n)

/-- Presented and run a second time, a command whose update of CTL is idempotent leaves the whole state (R157). -/
theorem UpdatesCtl.idempotent {i : Instr} {f : Word → Word} {p : Phase} {s t : State}
    (h : ∀ u : State, u.seqStep = 0 → UpdatesCtl i f p u) (hg : gateOf i p = true) (htake : takeOf i = State.accept)
    (hfw : ∀ c, c &&& Reg.ctl.writable = c → f c &&& Reg.ctl.writable = f c) (hff : ∀ c, f (f c) = f c)
    (hp : s.params.Wf) (hs : s.RunsAt 0) (hpow : (s.inst i.inst).powered = true) (ht : execRun i 2 s = .next t) :
    execRun i 3 t = .next t := by
  obtain ⟨m, hm, hend⟩ := (h s hs.2.2).runs hp hs hpow
  obtain rfl := Host.Outcome.next.inj ((execRun_two hm hend).symm.trans ht)
  have hframe := ctlUpdated_frame s i.inst p (hfw _ (read_ctl_and_writable (s.inst i.inst)))
  have hagain := ctlUpdated_again s i.inst (f ((s.inst i.inst).read .ctl)) p
  generalize s.ctlUpdated i.inst (f ((s.inst i.inst).read .ctl)) p = t at hframe hagain ⊢
  obtain ⟨⟨hidle, -⟩, hphase, hctl, ⟨hpow', -⟩, -, ⟨hparams, -, -, -, -, hfaults, -⟩, -⟩ := hframe
  have hclean : t.faults = [] := hfaults.trans hs.2.1
  obtain ⟨m', hm', hend'⟩ := (h t.accept rfl).runs (hparams ▸ hp) ⟨rfl, hclean, rfl⟩ (hpow'.trans hpow)
  rw [execRun_presented hidle hclean (hphase ▸ hg), htake, execRun_two hm' hend', accept_inst, hctl, hff, hagain]

/-! ### RELEASE by LEAVE and by POWER_OFF (R165) -/

theorem releaseMicro_leave {s : State} (hk : s.seqStep = 0) (htd : s.params.teardown = .leave) (n : InstNum) :
    releaseMicro n s = .next ((s.setPhase n .released).finish statusOk) := by
  simp only [releaseMicro, htd, releaseLeaveMicro, hk]

theorem releaseMicro_powerOff {s : State} (hk : s.seqStep = 0) (htd : s.params.teardown = .powerOff) (n : InstNum) :
    releaseMicro n s = .next (((powerOff n s).setPhase n .released).finish statusOk) := by
  simp only [releaseMicro, htd, releasePowerOffMicro, hk]

theorem setPhase_sameOthers (s : State) (n : InstNum) (p : Phase) : SameOthers n s (s.setPhase n p) :=
  fun _ hm => setPhase_inst_ne s _ hm

/-! ### The statements -/

/-- Settles O28. -/
theorem enableCompletes : Obligations.EnableCompletes := by
  intro n s hp hs hpow
  obtain ⟨m, hm, hend⟩ := (enable_updatesCtl hs.2.2 n).runs hp hs hpow
  exact ⟨m, _, hm, hend, ctlUpdated_frame s n .enabled (clear_and_writable (read_ctl_and_writable _) _)⟩

/-- Settles O29. -/
theorem disableCompletes : Obligations.DisableCompletes := by
  intro n s hp hs hpow
  obtain ⟨m, hm, hend⟩ := (disable_updatesCtl hs.2.2 n).runs hp hs hpow
  exact ⟨m, _, hm, hend, ctlUpdated_frame s n .disabled (set_and_writable (read_ctl_and_writable _) (by decide))⟩

/-- Settles O30: to clear INIT, or to set it, is idempotent. -/
theorem enableAndDisableAreIdempotent : Obligations.EnableAndDisableAreIdempotent := by
  intro n s t hp hs hpow
  constructor
  · exact UpdatesCtl.idempotent (fun _ hk => disable_updatesCtl hk n) rfl rfl
      (fun _ hc => set_and_writable hc (by decide)) (fun c => by rw [BitVec.or_assoc, BitVec.or_self]) hp hs hpow
  · exact UpdatesCtl.idempotent (fun _ hk => enable_updatesCtl hk n) rfl rfl
      (fun _ hc => clear_and_writable hc _) (fun c => by rw [BitVec.and_assoc, BitVec.and_self]) hp hs hpow

/-- Settles O32, by TEARDOWN: LEAVE writes the phase alone, DISABLE is one update of CTL, and POWER_OFF leaves a
peripheral that no access reaches. -/
theorem releaseCompletes : Obligations.ReleaseCompletes := by
  intro n s hp hs hpow
  obtain ⟨hb, hf, hk⟩ := id hs
  refine ⟨fun htd => ?leave, fun htd => ?disable, fun htd => ?powerOff⟩
  case leave =>
    have hinst : ((s.setPhase n .released).finish statusOk).inst n = (s.inst n).setPhase .released :=
      setPhase_inst_self ..
    have hothers : SameOthers n s ((s.setPhase n .released).finish statusOk) := setPhase_sameOthers s n _
    have hmemory := sameMemoryBut_of_reads (rs := []) hothers rfl (by rw [hinst]; rfl)
      (fun r _ => by rw [hinst, read_setPhase])
    exact ⟨_, (exec_running hb hf _).trans (releaseMicro_leave hk htd n), ⟨rfl, rfl⟩, by rw [hinst]; rfl,
      by rw [SameTransfer, hinst]; exact ⟨rfl, rfl, rfl⟩, hothers, ⟨rfl, rfl, rfl, rfl, rfl, rfl, rfl⟩,
      ⟨rfl, rfl, rfl, rfl, rfl⟩, ⟨rfl, rfl, rfl⟩, rfl, hmemory⟩
  case disable =>
    obtain ⟨m, hm, hend⟩ := (release_updatesCtl hk htd n).runs hp hs hpow
    obtain ⟨hended, hphase, hctl, htransfer, hothers, hport, hresults, hloops, hsaved, -, hmemory⟩ :=
      ctlUpdated_frame s n .released (set_and_writable (m := ctlInit) (read_ctl_and_writable (s.inst n)) (by decide))
    exact ⟨m, _, hm, hend, hended, hphase, hctl, htransfer, hothers, hport, hresults, hloops, hsaved, hmemory⟩
  case powerOff =>
    have hinst : (((powerOff n s).setPhase n .released).finish statusOk).inst n =
        ((powerOff n s).inst n).setPhase .released := setPhase_inst_self ..
    have hothers : SameOthers n s (((powerOff n s).setPhase n .released).finish statusOk) :=
      fun m hm => (setPhase_sameOthers _ n _ m hm).trans (powerOff_inst_ne s hm)
    rw [powerOff_inst_self] at hinst
    exact ⟨_, (exec_running hb hf _).trans (releaseMicro_powerOff hk htd n), ⟨rfl, rfl⟩, by rw [hinst]; rfl,
      by rw [hinst]; rfl, by rw [hinst]; rfl, by rw [hinst]; rfl, hothers, ⟨rfl, rfl, rfl, rfl, rfl, rfl, rfl⟩,
      ⟨rfl, rfl, rfl, rfl, rfl⟩, ⟨rfl, rfl, rfl⟩, rfl,
      fun a w => memRead_of_fault (accessReg_unpowered (by rw [hinst]; rfl) a w),
      fun m a w hm => memRead_of_same_inst (hothers m hm) rfl a w⟩

end Sys2Proof.Machine
end

section
/-! SUPPORT. GET_BIT_TIMING and SET_BIT_RATE: the committed timing, its read-back, and the failure that touches nothing
(spec/41_controller.md R140 to R142, R160). -/

namespace Sys2Proof.Machine

open Sys2Proof.Config

/-! ### GET_BIT_TIMING (R160) -/

/-- Where GET_BIT_TIMING ends. -/
def State.timingRead (s : State) (n : InstNum) : State :=
  let b := (s.inst n).read .bit
  ((s.advance.setResTiming (decodeSeg1 b) (decodeSeg2 b) (decodeSjw b) (decodePd b ((s.inst n).read .brpe))).finish
    statusOk)

theorem getBitTiming_runs {s : State} (hp : s.params.Wf) (hs : s.RunsAt 0) {n : InstNum}
    (hpow : (s.inst n).powered = true) :
    ∃ m, exec (.getBitTiming n) s = .next m ∧ exec (.getBitTiming n) m = .next (s.timingRead n) := by
  obtain ⟨hb, hf, hk⟩ := hs
  let m := (s.setLoc { s.loc with b := (s.inst n).read .bit }).advance
  refine ⟨m, ?_, ?_⟩
  · rw [exec_running hb hf, microOf, getBitTimingMicro, hk]
    exact withRead_next hp hpow .bit _
  · have hkm : m.seqStep = 1 := congrArg (· + 1) hk
    rw [exec_running (s := m) hb hf, microOf, getBitTimingMicro, hkm]
    exact withRead_next (s := m) hp hpow .brpe _

/-- Settles O31. -/
theorem getBitTimingCompletes : Obligations.GetBitTimingCompletes := by
  intro n s hp hs hpow
  obtain ⟨m, hm, hend⟩ := getBitTiming_runs hp hs hpow
  exact ⟨m, _, hm, hend, ⟨rfl, rfl⟩, toNat_decodeSeg1 _, toNat_decodeSeg2 _, toNat_decodeSjw _, toNat_decodePd _ _, rfl,
    rfl, ⟨rfl, rfl, rfl, rfl, rfl, rfl, rfl⟩, ⟨rfl, rfl, rfl⟩, rfl, rfl, fun _ _ _ _ => rfl⟩

/-! ### The micro-operations of SET_BIT_RATE (R140) -/

theorem setBitRateMicro_solve {s : State} (hk : s.seqStep = 0) (n : InstNum) {sol : Solution}
    (h : s.solution = some sol) :
    setBitRateMicro n s = .next (s.midway n (s.inst n) 1 { s.loc with clk := s.arg0, sol := sol }) := by
  simp only [setBitRateMicro, hk, h, State.midway, setInst_inst]
  rw [State.advance, setLoc_seqStep, hk]
  rfl

section

variable {s : State} (hp : s.params.Wf) (hf : s.faults = []) (n : InstNum) {x : CanInst} (hpow : x.powered = true)
  (l : Locals)

include hp hpow

theorem setBitRateMicro_saveCtl :
    setBitRateMicro n (s.midway n x 1 l) = .next ((s.setSavedCtl (x.read .ctl)).midway n x 2 l) := by
  simp only [setBitRateMicro, midway_seqStep]
  exact withRead_midway hp hpow n _ _ _ _

include hf

theorem setBitRateMicro_enterConfiguring :
    setBitRateMicro n (s.midway n x 2 l) =
      .next (s.midway n (x.enterConfiguring s.params.writeProtect (s.savedCtl ||| ctlInitCce)) 3
        { l with priorPhase := x.phase }) := by
  simp only [setBitRateMicro, midway_seqStep]
  rw [withWrite_midway hp hf hpow n rfl, midway_setPhase, midway_inst_self, store_phase]
  rfl

theorem setBitRateMicro_writeBit :
    setBitRateMicro n (s.midway n x 3 l) =
      .next (s.midway n (x.store s.params.writeProtect .bit (encodeBit l.sol.entry l.sol.pd)) 4 l) := by
  simp only [setBitRateMicro, midway_seqStep]
  exact withWrite_midway hp hf hpow n rfl _ _ _ _

theorem setBitRateMicro_writeBrpe :
    setBitRateMicro n (s.midway n x 4 l) =
      .next (s.midway n (x.store s.params.writeProtect .brpe (encodeBrpe l.sol.pd)) 5 l) := by
  simp only [setBitRateMicro, midway_seqStep]
  exact withWrite_midway hp hf hpow n rfl _ _ _ _

theorem setBitRateMicro_restoreCtl :
    setBitRateMicro n (s.midway n x 5 l) =
      .next (((s.midway n ((x.store s.params.writeProtect .ctl s.savedCtl).setPhase l.priorPhase) 5 l).setResRate
        (achieved l.clk l.sol)).finish statusOk) := by
  simp only [setBitRateMicro, midway_seqStep]
  rw [withWrite_midway hp hf hpow n rfl, midway_setPhase]
  rfl

end

/-! ### The peripheral with a committed timing -/

/-- What SET_BIT_RATE leaves of a peripheral. -/
def CanInst.commitTiming (x : CanInst) (p : Bool) (sol : Solution) : CanInst :=
  ((((x.enterConfiguring p (x.read .ctl ||| ctlInitCce)).store p .bit (encodeBit sol.entry sol.pd)).store p .brpe
    (encodeBrpe sol.pd)).store p .ctl (x.read .ctl)).setPhase x.phase

theorem commitTiming_phase (x : CanInst) (p : Bool) (sol : Solution) : (x.commitTiming p sol).phase = x.phase := rfl

theorem commitTiming_sameTransfer (x : CanInst) (p : Bool) (sol : Solution) :
    (x.commitTiming p sol).powered = x.powered ∧ (x.commitTiming p sol).pending = x.pending ∧
      (x.commitTiming p sol).objects = x.objects := by
  simp [CanInst.commitTiming]

theorem read_commitTiming_ctl (x : CanInst) (p : Bool) (sol : Solution) :
    (x.commitTiming p sol).read .ctl = x.read .ctl := by
  rw [CanInst.commitTiming, read_setPhase, read_store_ctl, read_ctl_and_writable]

theorem read_commitTiming_bit (x : CanInst) (p : Bool) (sol : Solution) :
    (x.commitTiming p sol).read .bit = encodeBit sol.entry sol.pd &&& Reg.bit.writable := by
  rw [CanInst.commitTiming, read_setPhase, read_store_ne _ _ (by decide), read_store_ne _ _ (by decide),
    read_store_self (enterConfiguring_writeEnabled x p (phaseBits_configuring _) .bit) (by decide)]

theorem read_commitTiming_brpe (x : CanInst) (p : Bool) (sol : Solution) :
    (x.commitTiming p sol).read .brpe = encodeBrpe sol.pd &&& Reg.brpe.writable := by
  have hbits : PhaseBits .configuring (((x.enterConfiguring p (x.read .ctl ||| ctlInitCce)).store p .bit
      (encodeBit sol.entry sol.pd)).read .ctl) := by
    rw [read_store_ne _ _ (by decide), read_enterConfiguring_ctl, phaseBits_writable]
    exact phaseBits_configuring _
  rw [CanInst.commitTiming, read_setPhase, read_store_ne _ _ (by decide),
    read_store_self (writeEnabled_of_configuringBits hbits p .brpe) (by decide)]

theorem read_commitTiming_ne (x : CanInst) (p : Bool) (sol : Solution) {r : Reg} (hr : r ∉ [Reg.bit, .brpe]) :
    (x.commitTiming p sol).read r = x.read r := by
  obtain ⟨hbit, hbrpe⟩ : r ≠ .bit ∧ r ≠ .brpe := by simpa using hr
  by_cases hctl : r = .ctl
  · rw [hctl, read_commitTiming_ctl]
  · rw [CanInst.commitTiming, read_setPhase, read_store_ne _ _ hctl, read_store_ne _ _ hbrpe, read_store_ne _ _ hbit,
      read_enterConfiguring_ne _ _ _ hctl]

/-! ### SET_BIT_RATE completes (R140) -/

/-- Where SET_BIT_RATE of a solution ends. -/
def State.timingCommitted (s : State) (n : InstNum) (sol : Solution) : State :=
  ((((s.setSavedCtl ((s.inst n).read .ctl)).midway n ((s.inst n).commitTiming s.params.writeProtect sol) 5
    Locals.idle).setResRate (achieved s.arg0 sol)).finish statusOk)

theorem timingCommitted_inst (s : State) (n : InstNum) (sol : Solution) :
    (s.timingCommitted n sol).inst n = (s.inst n).commitTiming s.params.writeProtect sol :=
  inst_setInst_self ..

theorem setBitRate_runs {s : State} (hp : s.params.Wf) (hs : s.RunsAt 0) {n : InstNum}
    (hpow : (s.inst n).powered = true) {sol : Solution} (hsol : s.solution = some sol) :
    execRun (.setBitRate n) 6 s = .next (s.timingCommitted n sol) := by
  obtain ⟨hb, hf, hk⟩ := hs
  let u := s.setSavedCtl ((s.inst n).read .ctl)
  let i : Instr := .setBitRate n
  rw [execRun_running i (setBitRateMicro_solve hk n hsol) hb hf,
    execRun_running i (setBitRateMicro_saveCtl hp n hpow _) hb hf,
    execRun_running i (setBitRateMicro_enterConfiguring (s := u) hp hf n hpow _) hb hf,
    execRun_running i (setBitRateMicro_writeBit (s := u) hp hf n (by simpa) _) hb hf,
    execRun_running i (setBitRateMicro_writeBrpe (s := u) hp hf n (by simpa) _) hb hf,
    execRun_running i (setBitRateMicro_restoreCtl (s := u) hp hf n (by simpa) _) hb hf]
  rfl

/-! ### The committed registers in numbers (R87, R106) -/

section

variable {s : State} (hp : s.params.Wf) {sol : Solution} (hsol : s.solution = some sol)
include hp hsol

/-- A solution's timing loses nothing in the bits of BIT and BRPE. -/
theorem encoded_and_writable : encodeBit sol.entry sol.pd &&& Reg.bit.writable = encodeBit sol.entry sol.pd ∧
    encodeBrpe sol.pd &&& Reg.brpe.writable = encodeBrpe sol.pd := by
  obtain ⟨-, -, -, hlo, hhi, -⟩ := achievedRateIsAtMostTheTarget _ _ _ sol hsol
  obtain ⟨-, -, -, -, hbit, hbrpe⟩ := timingFieldsRoundTrip _ sol.pd (entry_legal_of_solution hp hsol) hlo hhi
  exact ⟨BitVec.eq_of_toNat_eq (by rw [toNat_and_bit_writable, Nat.mod_eq_of_lt hbit]),
    BitVec.eq_of_toNat_eq (by rw [toNat_and_brpe_writable, Nat.mod_eq_of_lt hbrpe])⟩

theorem timingCommitted_read_bit (n : InstNum) :
    ((s.timingCommitted n sol).inst n).read .bit = encodeBit sol.entry sol.pd := by
  rw [timingCommitted_inst, read_commitTiming_bit, (encoded_and_writable hp hsol).1]

theorem timingCommitted_read_brpe (n : InstNum) :
    ((s.timingCommitted n sol).inst n).read .brpe = encodeBrpe sol.pd := by
  rw [timingCommitted_inst, read_commitTiming_brpe, (encoded_and_writable hp hsol).2]

end

/-! ### The statements about SET_BIT_RATE -/

/-- Settles O22. -/
theorem setBitRateCompletes : Obligations.SetBitRateCompletes := by
  intro n s sol hp hs hpow hsol
  have hinst := timingCommitted_inst s n sol
  have htransfer := commitTiming_sameTransfer (s.inst n) s.params.writeProtect sol
  have hothers : SameOthers n s (s.timingCommitted n sol) := fun _ hm => inst_setInst_ne s _ hm
  refine ⟨_, setBitRate_runs hp hs hpow hsol, ⟨rfl, rfl⟩, ?ctl, ?bit, ?brpe, ?phase, rfl, rfl, ?transfer, hothers,
    ⟨rfl, rfl, rfl, rfl, rfl, rfl, rfl⟩, ⟨rfl, rfl, rfl, rfl⟩, ⟨rfl, rfl, rfl⟩, rfl, ?memory⟩
  case ctl => rw [hinst, read_commitTiming_ctl]
  case bit =>
    rw [timingCommitted_read_bit hp hsol, toNat_encodeBit (entry_legal_of_solution hp hsol)]
    omega
  case brpe =>
    obtain ⟨-, -, -, -, hhi, -⟩ := achievedRateIsAtMostTheTarget _ _ _ sol hsol
    rw [timingCommitted_read_brpe hp hsol, toNat_encodeBrpe hhi]
  case phase => rw [hinst, commitTiming_phase]
  case transfer => rwa [SameTransfer, hinst]
  case memory =>
    exact sameMemoryBut_of_reads hothers rfl (by rw [hinst, htransfer.1])
      fun r hr => by rw [hinst, read_commitTiming_ne _ _ _ hr]

/-- Settles O25: the fields that are read back are those that were committed. -/
theorem committedTimingReadsBack : Obligations.CommittedTimingReadsBack := by
  intro n s sol hp hs hpow hsol
  refine ⟨_, setBitRate_runs hp hs hpow hsol, fun u hparams hu hpow' hbit hbrpe => ?_⟩
  rw [timingCommitted_read_bit hp hsol] at hbit
  rw [timingCommitted_read_brpe hp hsol] at hbrpe
  obtain ⟨-, -, -, hlo, hhi, -⟩ := achievedRateIsAtMostTheTarget _ _ _ sol hsol
  obtain ⟨hseg1, hseg2, hsjw, hpd, -⟩ := timingFieldsRoundTrip _ sol.pd (entry_legal_of_solution hp hsol) hlo hhi
  obtain ⟨m, hm, hend⟩ := getBitTiming_runs (hparams ▸ hp) hu hpow'
  refine ⟨_, execRun_two hm hend, ⟨rfl, rfl⟩, ?_⟩
  simp only [State.timingRead, hbit, hbrpe]
  exact ⟨hseg1, hseg2, hsjw, hpd⟩

/-- Settles O23. -/
theorem setBitRateEntersConfiguring : Obligations.SetBitRateEntersConfiguring := by
  intro n s hp ⟨hb, hf, hk⟩ hpow hsaved
  have hstep := setBitRateMicro_enterConfiguring hp hf n hpow s.loc
  rw [midway_self hk] at hstep
  refine ⟨_, (exec_running hb hf _).trans hstep, ⟨hb, hf, rfl⟩, ?phase, ?ctl, midway_sameMemoryBut (by simp) ?memory _ _,
    midway_sameOthers s n _ _ _, ?transfer, rfl⟩
  case phase => simp
  case ctl =>
    rw [midway_inst_self, read_enterConfiguring_ctl, hsaved]
    exact set_and_writable (read_ctl_and_writable _) ctlInitCce_writable
  case memory => exact fun r hr => read_enterConfiguring_ne _ _ _ (by simpa using hr)
  case transfer => simp [SameTransfer]

/-! ### A failed SET_BIT_RATE (R141) -/

theorem withRead_keeps_cmdBusy {n : InstNum} {r : Reg} {next : Word → State → State} {s t : State}
    (h : withRead n r next s = .next t) (hnext : ∀ v u, (next v u).cmdBusy = u.cmdBusy) : t.cmdBusy = s.cmdBusy := by
  obtain ⟨v, rfl⟩ | ⟨f, rfl⟩ := withRead_cases h
  · exact hnext v s
  · rfl

theorem withWrite_keeps_cmdBusy {n : InstNum} {r : Reg} {v : Word} {next : State → State} {s t : State}
    (hf : s.faults = []) (h : withWrite n r v next s = .next t) (hnext : ∀ u, (next u).cmdBusy = u.cmdBusy) :
    t.cmdBusy = s.cmdBusy := by
  obtain ⟨x, rfl⟩ | ⟨x, f, rfl⟩ := withWrite_cases hf h
  · exact hnext _
  · rfl

/-- SET_BIT_RATE ends at once without a solution, goes on, or ends with OK. -/
theorem setBitRateMicro_cases {n : InstNum} {s t : State} (hf : s.faults = []) (h : setBitRateMicro n s = .next t) :
    s.seqStep = 0 ∧ t = s.finish statusBitrateNotFound ∨ t.cmdBusy = s.cmdBusy ∨ t.status = statusOk := by
  unfold setBitRateMicro at h
  split at h
  · next hk =>
    split at h <;> cases h
    · exact .inl ⟨hk, rfl⟩
    · exact .inr (.inl rfl)
  · exact .inr (.inl (withRead_keeps_cmdBusy h fun _ _ => rfl))
  · exact .inr (.inl (withWrite_keeps_cmdBusy hf h fun _ => rfl))
  · exact .inr (.inl (withWrite_keeps_cmdBusy hf h fun _ => rfl))
  · exact .inr (.inl (withWrite_keeps_cmdBusy hf h fun _ => rfl))
  · obtain ⟨x, rfl⟩ | ⟨x, f, rfl⟩ := withWrite_cases hf h
    · exact .inr (.inr rfl)
    · exact .inr (.inl rfl)
  · cases h

/-- Settles O24. -/
theorem setBitRateFailureTouchesNoRegister : Obligations.SetBitRateFailureTouchesNoRegister := by
  intro n s t hb h hend hstatus
  have hf := faults_of_exec h
  obtain ⟨hk, rfl⟩ | hbusy | hok := setBitRateMicro_cases hf ((exec_running hb hf _).symm.trans h)
  · exact ⟨hk, rfl, rfl, ⟨rfl, rfl, rfl, rfl, rfl⟩, ⟨rfl, rfl, rfl, rfl, rfl, rfl, rfl⟩, ⟨rfl, rfl, rfl⟩, rfl⟩
  · exact absurd (hbusy.trans hb) (by simp [hend])
  · exact absurd (hstatus.symm.trans hok) (by decide)

end Sys2Proof.Machine
end

section
/-! SUPPORT. CHANGE_BAUD_RATE (spec/41_controller.md R150): IE alone is cleared and set again around a write of BRPE that
write protection may ignore (spec/10_state.md R29). -/

namespace Sys2Proof.Machine

open Sys2Proof.Config

/-! ### The micro-operations -/

theorem changeBaudRateMicro_divide {s : State} (hk : s.seqStep = 0) (n : InstNum) (h : s.arg1 ≠ 0) :
    changeBaudRateMicro n s =
      .next (s.midway n (s.inst n) 1 { s.loc with v := coarseDivisor s.arg0.toNat s.arg1.toNat }) := by
  simp only [changeBaudRateMicro, hk, if_neg h, State.midway, setInst_inst]
  rw [State.advance, setLoc_seqStep, hk]
  rfl

section

variable {s : State} (hp : s.params.Wf) (hf : s.faults = []) (n : InstNum) {x : CanInst} (hpow : x.powered = true)
  (l : Locals)
include hp hpow

theorem changeBaudRateMicro_readCtl :
    changeBaudRateMicro n (s.midway n x 1 l) = .next (s.midway n x 2 { l with c := x.read .ctl }) := by
  simp only [changeBaudRateMicro, midway_seqStep]
  exact withRead_midway hp hpow n _ _ _ _

theorem changeBaudRateMicro_rereadCtl :
    changeBaudRateMicro n (s.midway n x 4 l) = .next (s.midway n x 5 { l with c2 := x.read .ctl }) := by
  simp only [changeBaudRateMicro, midway_seqStep]
  exact withRead_midway hp hpow n _ _ _ _

include hf

theorem changeBaudRateMicro_clearIe :
    changeBaudRateMicro n (s.midway n x 2 l) =
      .next (s.midway n (x.store s.params.writeProtect .ctl (l.c &&& ~~~ctlIe)) 3 l) := by
  simp only [changeBaudRateMicro, midway_seqStep]
  exact withWrite_midway hp hf hpow n rfl _ _ _ _

theorem changeBaudRateMicro_writeBrpe :
    changeBaudRateMicro n (s.midway n x 3 l) =
      .next (s.midway n (x.store s.params.writeProtect .brpe (BitVec.ofNat 32 l.v)) 4 l) := by
  simp only [changeBaudRateMicro, midway_seqStep]
  exact withWrite_midway hp hf hpow n rfl _ _ _ _

theorem changeBaudRateMicro_setIe :
    changeBaudRateMicro n (s.midway n x 5 l) =
      .next ((s.midway n (x.store s.params.writeProtect .ctl (l.c2 ||| ctlIe)) 5 l).finish statusOk) := by
  simp only [changeBaudRateMicro, midway_seqStep]
  exact withWrite_midway hp hf hpow n rfl _ _ _ _

end

/-! ### The peripheral with a changed baud rate -/

/-- A peripheral at the write of BRPE: IE is clear. -/
def CanInst.withIeClear (x : CanInst) (p : Bool) : CanInst := x.store p .ctl (x.read .ctl &&& ~~~ctlIe)

/-- What CHANGE_BAUD_RATE with divisor `v` leaves of a peripheral. -/
def CanInst.changeBaudRate (x : CanInst) (p : Bool) (v : Nat) : CanInst :=
  let y := (x.withIeClear p).store p .brpe (BitVec.ofNat 32 v)
  y.store p .ctl (y.read .ctl ||| ctlIe)

theorem read_withIeClear_ctl (x : CanInst) (p : Bool) :
    (x.withIeClear p).read .ctl = x.read .ctl &&& ~~~ctlIe := by
  rw [CanInst.withIeClear, read_store_ctl, clear_and_writable (read_ctl_and_writable x)]

/-- IE guards no register: BRPE is write enabled as before. -/
theorem withIeClear_writeEnabled (x : CanInst) (p : Bool) (r : Reg) :
    (x.withIeClear p).writeEnabled p r = x.writeEnabled p r := by
  have hi : initBit (x.read .ctl &&& ~~~ctlIe) = initBit (x.read .ctl) := by simp [initBit, ctlIe]
  have hc : cceBit (x.read .ctl &&& ~~~ctlIe) = cceBit (x.read .ctl) := by simp [cceBit, ctlIe]
  rw [Bool.eq_iff_iff, writeEnabled_iff, writeEnabled_iff, read_withIeClear_ctl, hi, hc]

theorem changeBaudRate_phase (x : CanInst) (p : Bool) (v : Nat) : (x.changeBaudRate p v).phase = x.phase := by
  simp [CanInst.changeBaudRate, CanInst.withIeClear]

theorem changeBaudRate_sameTransfer (x : CanInst) (p : Bool) (v : Nat) :
    (x.changeBaudRate p v).powered = x.powered ∧ (x.changeBaudRate p v).pending = x.pending ∧
      (x.changeBaudRate p v).objects = x.objects := by
  simp [CanInst.changeBaudRate, CanInst.withIeClear]

/-- Bits that are cleared and then set are set. -/
theorem clear_then_set (c m : Word) : (c &&& ~~~m) ||| m = c ||| m := by
  ext i hi
  simp only [BitVec.getElem_or, BitVec.getElem_and, BitVec.getElem_not]
  cases m[i] <;> simp

/-- IE ends set, whatever it was. -/
theorem read_changeBaudRate_ctl (x : CanInst) (p : Bool) (v : Nat) :
    (x.changeBaudRate p v).read .ctl = x.read .ctl ||| ctlIe := by
  rw [CanInst.changeBaudRate, read_store_ctl, set_and_writable (read_ctl_and_writable _) (by decide),
    read_store_ne _ _ (by decide), read_withIeClear_ctl, clear_then_set]

theorem read_changeBaudRate_brpe (x : CanInst) (p : Bool) (v : Nat) : (x.changeBaudRate p v).read .brpe =
    if x.writeEnabled p .brpe then BitVec.ofNat 32 v &&& Reg.brpe.writable else x.read .brpe := by
  rw [CanInst.changeBaudRate, read_store_ne _ _ (by decide)]
  split
  · next h => rw [read_store_self ((withIeClear_writeEnabled ..).trans h) (by decide)]
  · next h =>
    rw [store_of_protected ((withIeClear_writeEnabled ..).trans (Bool.eq_false_iff.2 h)), CanInst.withIeClear,
      read_store_ne _ _ (by decide)]

theorem read_changeBaudRate_ne (x : CanInst) (p : Bool) (v : Nat) {r : Reg} (hr : r ∉ [Reg.ctl, .brpe]) :
    (x.changeBaudRate p v).read r = x.read r := by
  obtain ⟨hctl, hbrpe⟩ : r ≠ .ctl ∧ r ≠ .brpe := by simpa using hr
  rw [CanInst.changeBaudRate, read_store_ne _ _ hctl, read_store_ne _ _ hbrpe, CanInst.withIeClear,
    read_store_ne _ _ hctl]

/-! ### The statements -/

/-- Where CHANGE_BAUD_RATE ends. -/
def State.baudRateChanged (s : State) (n : InstNum) : State :=
  (s.midway n ((s.inst n).changeBaudRate s.params.writeProtect (coarseDivisor s.arg0.toNat s.arg1.toNat)) 5
    Locals.idle).finish statusOk

theorem baudRateChanged_inst (s : State) (n : InstNum) : (s.baudRateChanged n).inst n =
    (s.inst n).changeBaudRate s.params.writeProtect (coarseDivisor s.arg0.toNat s.arg1.toNat) :=
  inst_setInst_self ..

theorem changeBaudRate_runs {s : State} (hp : s.params.Wf) (hs : s.RunsAt 0) {n : InstNum}
    (hpow : (s.inst n).powered = true) (harg : s.arg1 ≠ 0) :
    execRun (.changeBaudRate n) 6 s = .next (s.baudRateChanged n) := by
  obtain ⟨hb, hf, hk⟩ := hs
  let i : Instr := .changeBaudRate n
  rw [execRun_running i (changeBaudRateMicro_divide hk n harg) hb hf,
    execRun_running i (changeBaudRateMicro_readCtl hp n hpow _) hb hf,
    execRun_running i (changeBaudRateMicro_clearIe hp hf n hpow _) hb hf,
    execRun_running i (changeBaudRateMicro_writeBrpe hp hf n (by simpa) _) hb hf,
    execRun_running i (changeBaudRateMicro_rereadCtl hp n (by simpa) _) hb hf,
    execRun_running i (changeBaudRateMicro_setIe hp hf n (by simpa) _) hb hf]
  rfl

/-- Settles O26: the write of BRPE finds INIT and CCE as the command found them. -/
theorem changeBaudRateCompletes : Obligations.ChangeBaudRateCompletes := by
  intro n s hp hs hpow harg
  have hinst := baudRateChanged_inst s n
  have htransfer := changeBaudRate_sameTransfer (s.inst n) s.params.writeProtect
    (coarseDivisor s.arg0.toNat s.arg1.toNat)
  have hothers : SameOthers n s (s.baudRateChanged n) := fun _ hm => inst_setInst_ne s _ hm
  have henabled := writeEnabled_iff (s.inst n) s.params.writeProtect .brpe
  refine ⟨_, changeBaudRate_runs hp hs hpow harg, ⟨rfl, rfl⟩, ?ctl, fun hopen => ?taken, fun hprot hclosed => ?ignored,
    ?phase, ?transfer, hothers, ⟨rfl, rfl, rfl, rfl, rfl, rfl, rfl⟩, ⟨rfl, rfl, rfl, rfl, rfl⟩, ⟨rfl, rfl, rfl⟩, rfl, rfl,
    ?memory⟩
  case ctl => rw [hinst, read_changeBaudRate_ctl]; rfl
  case taken =>
    have hw := henabled.2 fun _ hprot => hopen.resolve_left (by simp [hprot])
    rw [hinst, read_changeBaudRate_brpe, if_pos hw, toNat_and_brpe_writable, BitVec.toNat_ofNat,
      Nat.mod_mod_of_dvd _ (by decide)]
    rfl
  case ignored =>
    rw [hinst, read_changeBaudRate_brpe, if_neg fun hw => hclosed (henabled.1 hw rfl hprot)]
  case phase => rw [hinst, changeBaudRate_phase]
  case transfer => rwa [SameTransfer, hinst]
  case memory =>
    exact sameMemoryBut_of_reads hothers rfl (by rw [hinst, htransfer.1])
      fun r hr => by rw [hinst, read_changeBaudRate_ne _ _ _ hr]

/-- Settles O27. -/
theorem changeBaudRateClearsIeFirst : Obligations.ChangeBaudRateClearsIeFirst := by
  intro n s hp ⟨hb, hf, hk⟩ hpow hc
  have hstep := changeBaudRateMicro_clearIe hp hf n hpow s.loc
  rw [midway_self hk, hc] at hstep
  refine ⟨_, (exec_running hb hf _).trans hstep, ⟨hb, hf, rfl⟩, ?ctl, midway_sameMemoryBut (store_powered ..) ?memory _ _,
    midway_sameOthers s n _ _ _⟩
  case ctl =>
    rw [midway_inst_self]
    exact read_withIeClear_ctl _ _
  case memory => exact fun r hr => read_store_ne _ _ (by simpa using hr) _

end Sys2Proof.Machine
end

section
/-! SUPPORT. CONSTRUCT (spec/41_controller.md R130 to R133): power, peripheral reset, the default configuration, and that
the operands play no part. -/

namespace Sys2Proof.Machine

open Sys2Proof.Config

/-! ### The micro-operations (R132) -/

/-- A peripheral after PERIPH_RESET to the values `v`, with `o` for its unspecified objects (spec/10_state.md R50). -/
def CanInst.resetTo (x : CanInst) (v : RegFile) (o : Vector MsgObject 32) : CanInst :=
  { x with regs := v.implemented, pending := none, objects := o }

/-- One free value is used. -/
def State.takeFree (s : State) : State := { s with freeCtr := s.freeCtr + 1 }

theorem constructMicro_powerOn {s : State} (hk : s.seqStep = 0) (n : InstNum) :
    constructMicro n s = .next (s.midway n ((s.inst n).setPowered true) 1 s.loc) := by
  simp only [constructMicro, hk, powerOn, State.midway]
  rw [State.advance, setInst_seqStep, hk]
  rfl

theorem periphReset_midway (s : State) (n : InstNum) (x : CanInst) (k : Nat) (l : Locals) :
    periphReset n (s.midway n x k l) =
      s.takeFree.midway n (x.resetTo s.params.resetValues (freeObjects s.freeCtr)) k l := by
  rw [periphReset, midway_setInst, midway_inst_self]
  rfl

theorem constructMicro_periphReset (s : State) (n : InstNum) (x : CanInst) (l : Locals) :
    constructMicro n (s.midway n x 1 l) =
      .next (s.takeFree.midway n (x.resetTo s.params.resetValues (freeObjects s.freeCtr)) 2 l) := by
  simp only [constructMicro, midway_seqStep, periphReset_midway]
  rfl

section

variable {s : State} (hp : s.params.Wf) (hf : s.faults = []) (n : InstNum) {x : CanInst} (hpow : x.powered = true)
  (l : Locals)
include hp hpow

theorem constructMicro_readCtl :
    constructMicro n (s.midway n x 5 l) = .next (s.midway n x 6 { l with c := x.read .ctl }) := by
  simp only [constructMicro, midway_seqStep]
  exact withRead_midway hp hpow n _ _ _ _

include hf

theorem constructMicro_clearCtl :
    constructMicro n (s.midway n x 2 l) = .next (s.midway n (x.store s.params.writeProtect .ctl 0) 3 l) := by
  simp only [constructMicro, midway_seqStep]
  exact withWrite_midway hp hf hpow n rfl _ _ _ _

theorem constructMicro_enterConfiguring :
    constructMicro n (s.midway n x 3 l) =
      .next (s.midway n (x.enterConfiguring s.params.writeProtect ctlInitCce) 4 l) := by
  simp only [constructMicro, midway_seqStep]
  rw [withWrite_midway hp hf hpow n rfl, midway_setPhase]
  rfl

theorem constructMicro_writeBit :
    constructMicro n (s.midway n x 4 l) =
      .next (s.midway n (x.store s.params.writeProtect .bit s.params.defaultBit) 5 l) := by
  simp only [constructMicro, midway_seqStep]
  exact withWrite_midway hp hf hpow n rfl _ _ _ _

theorem constructMicro_enterInitialized :
    constructMicro n (s.midway n x 6 l) =
      .next ((s.midway n ((x.store s.params.writeProtect .ctl (l.c &&& ~~~ctlInit)).setPhase .initialized) 6 l).finish
        statusOk) := by
  simp only [constructMicro, midway_seqStep]
  rw [withWrite_midway hp hf hpow n rfl, midway_setPhase]
  rfl

end

/-! ### The constructed peripheral -/

/-- A powered peripheral after PERIPH_RESET and the writes of steps 2 to 4. -/
def CanInst.configureDefault (x : CanInst) (p : Params) (o : Vector MsgObject 32) : CanInst :=
  ((((x.setPowered true).resetTo p.resetValues o).store p.writeProtect .ctl 0).enterConfiguring p.writeProtect
    ctlInitCce).store p.writeProtect .bit p.defaultBit

/-- What CONSTRUCT leaves of a peripheral. -/
def CanInst.construct (x : CanInst) (p : Params) (o : Vector MsgObject 32) : CanInst :=
  let y := x.configureDefault p o
  (y.store p.writeProtect .ctl (y.read .ctl &&& ~~~ctlInit)).setPhase .initialized

theorem resetValue_and_writable {v : RegFile} (hv : ResetValuesLegal v) {r : Reg} (hr : r ≠ .if1crq) :
    v.get r &&& r.writable = v.get r := by
  obtain ⟨hctl, hbit, hbrpe, -, hcmsk, harb1, harb2, hmctl⟩ := hv
  cases r
  case if1crq => exact absurd rfl hr
  exacts [hctl, hbit, hbrpe, hcmsk, harb1, harb2, hmctl]

/-- A peripheral reset leaves RESET_VALUES, but for BUSY (R36, R50). -/
theorem read_resetTo (x : CanInst) {v : RegFile} (hv : ResetValuesLegal v) (o : Vector MsgObject 32) {r : Reg}
    (hr : r ≠ .if1crq) : (x.resetTo v o).read r = v.get r := by
  have hread : (x.resetTo v o).read r = v.get r &&& r.writable &&& r.writable := by
    cases r
    case if1crq => exact absurd rfl hr
    all_goals rfl
  rw [hread, resetValue_and_writable hv hr, resetValue_and_writable hv hr]

theorem read_resetTo_if1crq (x : CanInst) (v : RegFile) (o : Vector MsgObject 32) :
    (x.resetTo v o).read .if1crq = v.if1crq &&& 0x3F := by
  simp [CanInst.read, CanInst.resetTo, RegFile.implemented, Reg.writable, busyFlag, BitVec.and_assoc]

theorem read_configureDefault_ctl (x : CanInst) (p : Params) (o : Vector MsgObject 32) :
    (x.configureDefault p o).read .ctl = ctlInitCce := by
  rw [CanInst.configureDefault, read_store_ne _ _ (by decide), read_enterConfiguring_ctl, ctlInitCce_writable]

theorem construct_fields (x : CanInst) (p : Params) (o : Vector MsgObject 32) :
    (x.construct p o).powered = true ∧ (x.construct p o).phase = .initialized ∧ (x.construct p o).pending = none ∧
      (x.construct p o).objects = o := by
  simp [CanInst.construct, CanInst.configureDefault, CanInst.resetTo]

theorem read_construct_ctl (x : CanInst) (p : Params) (o : Vector MsgObject 32) :
    (x.construct p o).read .ctl = 0x40 := by
  rw [CanInst.construct, read_setPhase, read_store_ctl, read_configureDefault_ctl]
  rfl

theorem read_construct_bit (x : CanInst) {p : Params} (hp : p.Wf) (o : Vector MsgObject 32) :
    (x.construct p o).read .bit = p.defaultBit := by
  have hconf : PhaseBits .configuring ctlInitCce := ⟨by decide, by decide⟩
  have hfits : p.defaultBit &&& Reg.bit.writable = p.defaultBit :=
    BitVec.eq_of_toNat_eq (by rw [toNat_and_bit_writable, Nat.mod_eq_of_lt hp.defaultBit.1])
  rw [CanInst.construct, read_setPhase, read_store_ne _ _ (by decide), CanInst.configureDefault,
    read_store_self (enterConfiguring_writeEnabled _ _ hconf .bit) (by decide), hfits]

/-- Every other register is as the peripheral reset left it. -/
theorem read_construct_ne (x : CanInst) (p : Params) (o : Vector MsgObject 32) {r : Reg} (hctl : r ≠ .ctl)
    (hbit : r ≠ .bit) : (x.construct p o).read r = ((x.setPowered true).resetTo p.resetValues o).read r := by
  rw [CanInst.construct, read_setPhase, read_store_ne _ _ hctl, CanInst.configureDefault, read_store_ne _ _ hbit,
    read_enterConfiguring_ne _ _ _ hctl, read_store_ne _ _ hctl]

/-! ### CONSTRUCT completes (R132) -/

/-- Where CONSTRUCT ends. -/
def State.constructed (s : State) (n : InstNum) : State :=
  (s.takeFree.midway n ((s.inst n).construct s.params (freeObjects s.freeCtr)) 6 Locals.idle).finish statusOk

theorem constructed_inst (s : State) (n : InstNum) :
    (s.constructed n).inst n = (s.inst n).construct s.params (freeObjects s.freeCtr) :=
  inst_setInst_self ..

theorem construct_runs {s : State} (hp : s.params.Wf) (hs : s.RunsAt 0) (n : InstNum) :
    execRun (.construct n) 7 s = .next (s.constructed n) := by
  obtain ⟨hb, hf, hk⟩ := hs
  let i : Instr := .construct n
  rw [execRun_running i (constructMicro_powerOn hk n) hb hf,
    execRun_running i (constructMicro_periphReset s n _ _) hb hf,
    execRun_running i (constructMicro_clearCtl (s := s.takeFree) hp hf n rfl _) hb hf,
    execRun_running i (constructMicro_enterConfiguring (s := s.takeFree) hp hf n (store_powered ..) _) hb hf,
    execRun_running i (constructMicro_writeBit (s := s.takeFree) hp hf n (by simp [CanInst.resetTo]) _) hb hf,
    execRun_running i (constructMicro_readCtl (s := s.takeFree) hp n (by simp [CanInst.resetTo]) _) hb hf,
    execRun_running i (constructMicro_enterInitialized (s := s.takeFree) hp hf n (by simp [CanInst.resetTo]) _) hb hf]
  rfl

/-- Settles O19. -/
theorem constructCompletes : Obligations.ConstructCompletes := by
  intro n s hp hs
  have hothers : SameOthers n s (s.constructed n) := fun _ hm => inst_setInst_ne s _ hm
  have hread {r : Reg} (hctl : r ≠ .ctl) (hbit : r ≠ .bit) (hcrq : r ≠ .if1crq) :
      ((s.constructed n).inst n).read r = s.params.resetValues.get r := by
    rw [constructed_inst, read_construct_ne _ _ _ hctl hbit, read_resetTo _ hp.resetValues _ hcrq]
  have hcrq : ((s.constructed n).inst n).read .if1crq = s.params.resetValues.if1crq &&& 0x3F := by
    rw [constructed_inst, read_construct_ne _ _ _ (by decide) (by decide), read_resetTo_if1crq]
  have hctl : ((s.constructed n).inst n).read .ctl = 0x40 := by rw [constructed_inst, read_construct_ctl]
  have hbit : ((s.constructed n).inst n).read .bit = s.params.defaultBit := by
    rw [constructed_inst, read_construct_bit _ hp]
  obtain ⟨hpow, hphase, hpending, hobjects⟩ := construct_fields (s.inst n) s.params (freeObjects s.freeCtr)
  rw [← constructed_inst] at hpow hphase hpending hobjects
  exact ⟨_, construct_runs hp hs n, ⟨rfl, rfl⟩, hpow, hphase, hpending, hobjects, hctl, hbit,
    hread (by decide) (by decide) (by decide), hcrq, hread (by decide) (by decide) (by decide),
    hread (by decide) (by decide) (by decide), hread (by decide) (by decide) (by decide),
    hread (by decide) (by decide) (by decide), hothers, ⟨rfl, rfl, rfl, rfl, rfl, rfl, rfl⟩,
    ⟨rfl, rfl, rfl, rfl, rfl⟩, ⟨rfl, rfl, rfl⟩, rfl, fun m a w hm => memRead_of_same_inst (hothers m hm) rfl a w⟩

/-- Settles O20. -/
theorem constructEntersConfiguring : Obligations.ConstructEntersConfiguring := by
  intro n s hp hpow
  refine ⟨fun ⟨hb, hf, hk⟩ => ?step3, fun ⟨hb, hf, hk⟩ => ?step4, fun ⟨hb, hf, hk⟩ => ?step5⟩
  case step3 =>
    have hstep := constructMicro_enterConfiguring hp hf n hpow s.loc
    rw [midway_self hk] at hstep
    exact ⟨_, (exec_running hb hf _).trans hstep, ⟨hb, hf, rfl⟩, by simp,
      by rw [midway_inst_self, read_enterConfiguring_ctl]; rfl,
      midway_sameMemoryBut (by simp) (fun r hr => read_enterConfiguring_ne _ _ _ (by simpa using hr)) _ _,
      midway_sameOthers s n _ _ _, by simp [SameTransfer]⟩
  case step4 =>
    have hstep := constructMicro_writeBit hp hf n hpow s.loc
    rw [midway_self hk] at hstep
    exact ⟨_, (exec_running hb hf _).trans hstep, ⟨hb, hf, rfl⟩, by simp,
      midway_sameMemoryBut (by simp) (fun r hr => read_store_ne _ _ (by simpa using hr) _) _ _,
      midway_sameOthers s n _ _ _, by simp [SameTransfer]⟩
  case step5 =>
    have hstep := constructMicro_readCtl hp n hpow s.loc
    rw [midway_self hk] at hstep
    exact ⟨_, (exec_running hb hf _).trans hstep, ⟨hb, hf, rfl⟩, by simp,
      midway_sameMemoryBut rfl (fun r _ => rfl) _ _, midway_sameOthers s n _ _ _, by simp [SameTransfer]⟩

/-! ### The operands play no part (R133) -/

/-- The state with other operands. -/
def State.withArgs (s : State) (a b : Word) : State := { s with arg0 := a, arg1 := b }

theorem memWrite_withArgs (n : InstNum) (adr : Word) (w : Nat) (v : Word) (s : State) (a b : Word) :
    memWrite n adr w v (s.withArgs a b) = (memWrite n adr w v s).withArgs a b := by
  have hacc : accessReg n adr w (s.withArgs a b) = accessReg n adr w s := rfl
  simp only [memWrite, hacc]
  cases accessReg n adr w s with
  | error f => rfl
  | ok r =>
    change State.recordFault? _ ((s.inst n).write s.params.writeProtect r v).2 =
      ((s.setInst n ((s.inst n).write s.params.writeProtect r v).1).recordFault?
        ((s.inst n).write s.params.writeProtect r v).2).withArgs a b
    cases ((s.inst n).write s.params.writeProtect r v).2 <;> rfl

/-- A micro-operation commutes with a change of the operands. -/
def IgnoresArgs (micro : State → Result) (a b : Word) (s : State) : Prop :=
  ∀ t, micro s = .next t → micro (s.withArgs a b) = .next (t.withArgs a b)

theorem withRead_ignoresArgs {n : InstNum} {r : Reg} {next : Word → State → State} {a b : Word} {s : State}
    (hnext : ∀ v, next v (s.withArgs a b) = (next v s).withArgs a b) : IgnoresArgs (withRead n r next) a b s := by
  intro t h
  have hread : memRead n ((s.withArgs a b).regAddr n r) 4 (s.withArgs a b) = memRead n (s.regAddr n r) 4 s := rfl
  unfold withRead at h ⊢
  rw [hread]
  cases hm : memRead n (s.regAddr n r) 4 s with
  | ok v => rw [hm] at h; cases h; exact congrArg _ (hnext v)
  | error f => rw [hm] at h; cases h; rfl

theorem withWrite_ignoresArgs {n : InstNum} {r : Reg} {v : Word} {next : State → State} {a b : Word} {s : State}
    (hnext : ∀ u, next (u.withArgs a b) = (next u).withArgs a b) : IgnoresArgs (withWrite n r v next) a b s := by
  intro t h
  have hwrite : memWrite n ((s.withArgs a b).regAddr n r) 4 v (s.withArgs a b) =
      (memWrite n (s.regAddr n r) 4 v s).withArgs a b := memWrite_withArgs ..
  simp only [withWrite, hwrite] at h ⊢
  cases h
  have hfaults : ((memWrite n (s.regAddr n r) 4 v s).withArgs a b).faults = (memWrite n (s.regAddr n r) 4 v s).faults := rfl
  rw [hfaults, hnext]
  split <;> rfl

theorem constructMicro_ignoresArgs (n : InstNum) (a b : Word) (s : State) : IgnoresArgs (constructMicro n) a b s := by
  intro t h
  have hk : (s.withArgs a b).seqStep = s.seqStep := rfl
  rcases hs : s.seqStep with _ | _ | _ | _ | _ | _ | _ | k <;> simp only [constructMicro, hk, hs] at h ⊢
  · cases h; rfl
  · cases h; rfl
  · exact withWrite_ignoresArgs (fun _ => rfl) t h
  · exact withWrite_ignoresArgs (fun _ => rfl) t h
  · exact withWrite_ignoresArgs (fun _ => rfl) t h
  · exact withRead_ignoresArgs (fun _ => rfl) t h
  · exact withWrite_ignoresArgs (fun _ => rfl) t h
  · cases h

theorem exec_construct_ignoresArgs (n : InstNum) (a b : Word) (s : State) :
    IgnoresArgs (exec (.construct n)) a b s := by
  intro t h
  have hf := faults_of_exec h
  cases hb : s.cmdBusy with
  | true =>
    rw [exec_running hb hf] at h
    exact (exec_running (s := s.withArgs a b) hb hf _).trans (constructMicro_ignoresArgs n a b s t h)
  | false =>
    rw [exec_presented hb hf] at h
    cases h
    refine (exec_presented (s := s.withArgs a b) hb hf _).trans (congrArg Host.Outcome.next ?_)
    rw [apply_ite (State.withArgs · a b)]
    rfl

/-- Settles O21, by induction on the number of executions. -/
theorem constructIgnoresItsOperands : Obligations.ConstructIgnoresItsOperands := by
  intro n k
  induction k with
  | zero => intro s t a b h; cases h; rfl
  | succ k ih =>
    intro s t a b h
    rw [execRun] at h
    split at h
    · next u hu =>
      have hu' : exec (.construct n) { s with arg0 := a, arg1 := b } = .next { u with arg0 := a, arg1 := b } :=
        exec_construct_ignoresArgs n a b s u hu
      rw [execRun, hu']
      exact ih u t a b h
    · cases h
    · cases h

end Sys2Proof.Machine
end

section
/-! SUPPORT. Writes to the interface registers: the request of a transfer, IF_RACE and BAD_MNUM
(spec/42_message_objects.md R172, R174). -/

namespace Sys2Proof.Machine

open Sys2Proof.Config

/-! ### MNUM (spec/10_state.md R30, R36) -/

theorem toNat_mnumField (v : Word) : (mnumField v).toNat = v.toNat % 64 := by
  simp [mnumField, BitVec.extractLsb'_toNat]

theorem objectOfMnum_legal {v : Word} (h1 : 1 ≤ v.toNat % 64) (h2 : v.toNat % 64 ≤ 32) :
    objectOfMnum (mnumField v) = some ⟨v.toNat % 64 - 1, by omega⟩ := by
  simp [objectOfMnum, toNat_mnumField, h1, h2]

theorem objectOfMnum_illegal {v : Word} (h : ¬ (1 ≤ v.toNat % 64 ∧ v.toNat % 64 ≤ 32)) :
    objectOfMnum (mnumField v) = none := by
  rw [← toNat_mnumField] at h
  exact dif_neg h

theorem toNat_and_mnum (v : Word) : (v &&& Reg.if1crq.writable).toNat = v.toNat % 64 := by
  rw [BitVec.toNat_and]
  exact Nat.and_two_pow_sub_one_eq_mod v.toNat 6

/-- A read of IF1CRQ in numbers: BUSY above the stored MNUM. -/
theorem toNat_read_if1crq (x : CanInst) :
    (x.read .if1crq).toNat = (busyFlag x.pending).toNat + x.regs.if1crq.toNat % 64 := by
  have hmnum : x.regs.if1crq.toNat % 64 < 2 ^ 15 := by omega
  rw [CanInst.read, BitVec.toNat_or, toNat_and_mnum, Nat.lor_comm]
  cases x.pending with
  | none => simp [busyFlag]
  | some k => exact (shiftLeft_or (a := 1) hmnum).trans (by rw [Nat.one_mul]; rfl)

theorem toNat_busyFlag_mod (q : Option ObjIdx) : (busyFlag q).toNat % 64 = 0 := by
  cases q <;> simp [busyFlag]

theorem store_if1crq (x : CanInst) (p : Bool) (v : Word) :
    (x.store p .if1crq v).regs.if1crq = v &&& Reg.if1crq.writable := by
  rw [store_of_enabled (writeEnabled_of_not_timing x p rfl)]
  rfl

/-! ### The two kinds of interface write -/

theorem memWrite_if1crq {s : State} (hp : s.params.Wf) {n : InstNum} (hpow : (s.inst n).powered = true) (v : Word) :
    memWrite n (s.regAddr n .if1crq) 4 v s =
      (s.setInst n ((s.inst n).request s.params.writeProtect v).1).recordFault?
        ((s.inst n).request s.params.writeProtect v).2 := by
  simp [memWrite, accessReg_regAddr hp hpow, CanInst.write]

theorem request_race {x : CanInst} {k : ObjIdx} (hq : x.pending = some k) (p : Bool) (v : Word) :
    x.request p v = (x.store p .if1crq v, some .ifRace) := by
  simp [CanInst.request, hq]

theorem request_starts {x : CanInst} (hq : x.pending = none) (p : Bool) {v : Word} {k : ObjIdx}
    (hk : objectOfMnum (mnumField v) = some k) : x.request p v = ((x.store p .if1crq v).setPending (some k), none) := by
  simp [CanInst.request, hq, hk]

theorem request_badMnum {x : CanInst} (hq : x.pending = none) (p : Bool) {v : Word}
    (hk : objectOfMnum (mnumField v) = none) : x.request p v = (x.store p .if1crq v, some .badMnum) := by
  simp [CanInst.request, hq, hk]

/-- Whatever else it does, a request stores MNUM. -/
theorem request_if1crq (x : CanInst) (p : Bool) (v : Word) :
    (x.request p v).1.regs.if1crq = v &&& Reg.if1crq.writable := by
  cases hq : x.pending with
  | some k => rw [request_race hq, store_if1crq]
  | none =>
    cases hk : objectOfMnum (mnumField v) with
    | some k => rw [request_starts hq _ hk, CanInst.setPending_regs, store_if1crq]
    | none => rw [request_badMnum hq _ hk, store_if1crq]

/-- Any other interface register takes a write during a transfer, which is a race. -/
theorem memWrite_race {s : State} (hp : s.params.Wf) {n : InstNum} (hpow : (s.inst n).powered = true)
    (hq : (s.inst n).pending ≠ none) {r : Reg} (hif1 : r.isIf1 = true) (hr : r ≠ .if1crq) (v : Word) :
    memWrite n (s.regAddr n r) 4 v s =
      (s.setInst n ((s.inst n).store s.params.writeProtect r v)).recordFault .ifRace := by
  simp [memWrite, accessReg_regAddr hp hpow, CanInst.write, hr, hif1, Option.isSome_iff_ne_none.2 hq,
    State.recordFault?]

theorem recordFault_faults_of_clean {s : State} (hf : s.faults = []) (f : Fault) : (s.recordFault f).faults = [f] := by
  rw [recordFault_of_clean hf]

theorem isTiming_of_isIf1 {r : Reg} (h : r.isIf1 = true) : r.isTiming = false := by
  cases r
  case bit | brpe => cases h
  all_goals rfl

/-! ### The statements -/

/-- Settles O43, by what is pending and whether MNUM names an object. -/
theorem requestWriteStartsATransfer : Obligations.RequestWriteStartsATransfer := by
  intro n v s hp hpow hf
  simp only [memWrite_if1crq hp hpow]
  refine ⟨?mnum, fun hq => ?race, fun hq h1 h2 => ?starts, fun hq hbad => ?badMnum⟩
  case mnum =>
    have hinst (f : Option Fault) (x : CanInst) : ((s.setInst n x).recordFault? f).inst n = x := by
      cases f <;> exact inst_setInst_self ..
    rw [hinst, toNat_read_if1crq, request_if1crq, toNat_and_mnum, Nat.add_mod, toNat_busyFlag_mod]
    omega
  case race =>
    obtain ⟨k, hk⟩ := Option.ne_none_iff_exists'.1 hq
    rw [request_race hk]
    exact ⟨recordFault_faults_of_clean (s := s.setInst n _) hf _, by simp [State.recordFault?]⟩
  case starts =>
    rw [request_starts hq _ (objectOfMnum_legal h1 h2)]
    refine ⟨hf, ?_⟩
    simp only [State.recordFault?, inst_setInst_self, CanInst.setPending_pending, Option.map_some]
    exact congrArg some (Nat.sub_add_cancel h1)
  case badMnum =>
    rw [request_badMnum hq _ (objectOfMnum_illegal hbad)]
    exact ⟨recordFault_faults_of_clean (s := s.setInst n _) hf _, by simpa [State.recordFault?] using hq⟩

/-- Settles O44: of the interface registers only IF1CRQ does more than take the value. -/
theorem interfaceWriteDuringTransferIsARace : Obligations.InterfaceWriteDuringTransferIsARace := by
  intro n r v s hp hpow hf hq hif1
  obtain ⟨hif1, hr⟩ : r.isIf1 = true ∧ r ≠ .if1crq := by rcases hif1 with rfl | rfl | rfl | rfl <;> decide
  rw [memWrite_race hp hpow hq hif1 hr, recordFault_inst, inst_setInst_self,
    read_store_of_not_timing _ _ (isTiming_of_isIf1 hif1) hr]
  exact ⟨recordFault_faults_of_clean (s := s.setInst n _) hf _, by rw [writable_eq_impl hr], store_pending ..⟩

end Sys2Proof.Machine
end

section
/-! SUPPORT. The message handler (spec/42_message_objects.md R173): what a transfer does to its object, and a peripheral
with its transfer completed. -/

namespace Sys2Proof.Machine

open Sys2Proof.Config

/-! ### Transfers -/

@[simp] theorem transferWrite_mask (x : CanInst) (o : MsgObject) : (transferWrite x o).mask = o.mask := rfl
@[simp] theorem transferWrite_data (x : CanInst) (o : MsgObject) : (transferWrite x o).data = o.data := rfl
@[simp] theorem transferClear_mask (o : MsgObject) : (transferClear o).mask = o.mask := rfl
@[simp] theorem transferClear_data (o : MsgObject) : (transferClear o).data = o.data := rfl

/-- NEWDAT and INTPND, bits 15 and 13, are cleared alone. -/
theorem getLsbD_clearNewdatIntpnd (m : Half) {b : Nat} (hb : b < 16) :
    (clearNewdatIntpnd m).getLsbD b = (m.getLsbD b && b != 15 && b != 13) := by
  have hmask : ∀ i : Fin 16, (0x5FFF#16).getLsbD i = (i.val != 15 && i.val != 13) := by decide
  rw [clearNewdatIntpnd, BitVec.getLsbD_and, Bool.and_assoc]
  exact congrArg _ (hmask ⟨b, hb⟩)

/-- What a completion does to its object. -/
theorem complete_object {x y : CanInst} {k : ObjIdx} (h : x.complete k = some y) :
    x.read .if1cmsk = cmskWrite ∧ y.object k = transferWrite x (x.object k) ∨
      x.read .if1cmsk = cmskClear ∧ y.object k = transferClear (x.object k) := by
  by_cases hw : x.read .if1cmsk = cmskWrite
  · rw [complete_write hw] at h
    cases h
    exact .inl ⟨hw, object_setObject_self x k _⟩
  · by_cases hc : x.read .if1cmsk = cmskClear
    · rw [complete_clear hc] at h
      cases h
      exact .inr ⟨hc, object_setObject_self x k _⟩
    · simp [CanInst.complete, transfer, hw, hc] at h

theorem complete_unmodelled {x : CanInst} (hw : x.read .if1cmsk ≠ cmskWrite) (hc : x.read .if1cmsk ≠ cmskClear)
    (k : ObjIdx) : x.complete k = none := by
  simp [CanInst.complete, transfer, hw, hc]

/-- No transfer touches the mask or the data of any object (spec/10_state.md R35). -/
theorem complete_mask_data {x y : CanInst} {k : ObjIdx} (h : x.complete k = some y) (j : ObjIdx) :
    (y.object j).mask = (x.object j).mask ∧ (y.object j).data = (x.object j).data := by
  by_cases hj : j = k
  · subst hj
    obtain ⟨-, ho⟩ | ⟨-, ho⟩ := complete_object h <;> rw [ho] <;> exact ⟨rfl, rfl⟩
  · obtain ⟨-, -, -, -, hothers⟩ := complete_frame h
    rw [hothers j hj]
    exact ⟨rfl, rfl⟩

/-! ### The handler's move -/

theorem handlerMove_quiet {s : State} (hf : s.faults = []) {n : InstNum} (hq : (s.inst n).pending = none) :
    handlerMove n s = .next s := by
  simp [handlerMove, hf, hq]

theorem handlerMove_completes {s : State} (hf : s.faults = []) {n : InstNum} {k : ObjIdx} {x : CanInst}
    (hq : (s.inst n).pending = some k) (hx : (s.inst n).complete k = some x) :
    handlerMove n s = .next (s.setInst n x) := by
  simp [handlerMove, hf, hq, hx]

theorem handlerMove_unmodelled {s : State} (hf : s.faults = []) {n : InstNum} {k : ObjIdx}
    (hq : (s.inst n).pending = some k) (hx : (s.inst n).complete k = none) :
    handlerMove n s = .next { s with faults := [.unmodelledTransfer] } := by
  simp [handlerMove, hf, hq, hx, recordFault_of_clean hf]

/-- Settles O38, by the mask and the transfer it asks for. -/
theorem handlerCompletesTheTransfer : Obligations.HandlerCompletesTheTransfer := by
  refine fun n s hf => ⟨handlerMove_quiet hf, fun k hq => ⟨fun hmask => ?modelled, fun hw hc => ?unmodelled⟩⟩
  case unmodelled => exact handlerMove_unmodelled hf hq (complete_unmodelled hw hc k)
  case modelled =>
    obtain ⟨x, hx⟩ : ∃ x, (s.inst n).complete k = some x :=
      hmask.elim (fun hw => ⟨_, complete_write hw k⟩) (fun hc => ⟨_, complete_clear hc k⟩)
    obtain ⟨hpow, hphase, hregs, hpending, hobjects⟩ := complete_frame hx
    obtain ⟨hmask', hdata⟩ := complete_mask_data hx k
    refine ⟨s.setInst n x, handlerMove_completes hf hq hx, ?_⟩
    rw [inst_setInst_self]
    refine ⟨hpending, hregs, hphase, hpow, hobjects, hmask', hdata, fun hw => ?write, fun hc => ?clear,
      fun _ hm => inst_setInst_ne s x hm, ⟨rfl, rfl, rfl, rfl, rfl, rfl, rfl⟩, ⟨rfl, rfl, rfl, rfl, rfl⟩,
      ⟨rfl, rfl, rfl⟩, rfl, rfl, rfl⟩
    case write =>
      obtain ⟨-, ho⟩ | ⟨hc, -⟩ := complete_object hx
      · rw [ho]
        exact ⟨BitVec.toNat_setWidth .., BitVec.toNat_setWidth .., BitVec.toNat_setWidth ..⟩
      · exact absurd (hw.symm.trans hc) (by decide)
    case clear =>
      obtain ⟨hw, -⟩ | ⟨-, ho⟩ := complete_object hx
      · exact absurd (hc.symm.trans hw) (by decide)
      · rw [ho]
        exact ⟨rfl, rfl, fun b hb => getLsbD_clearNewdatIntpnd _ hb⟩

/-! ### A peripheral with its transfer completed -/

/-- The peripheral as its handler's next move leaves it. -/
def CanInst.settle (x : CanInst) : CanInst :=
  match x.pending with
  | none => x
  | some k => (x.complete k).getD x

theorem settle_of_quiet {x : CanInst} (hq : x.pending = none) : x.settle = x := by
  simp only [CanInst.settle, hq]

theorem settle_of_complete {x y : CanInst} {k : ObjIdx} (hq : x.pending = some k) (hc : x.complete k = some y) :
    x.settle = y := by
  simp only [CanInst.settle, hq, hc, Option.getD_some]

namespace CanInst.Ok

variable {x : CanInst}

theorem settle_pending (h : x.Ok) : x.settle.pending = none := by
  cases hq : x.pending with
  | none => rw [settle_of_quiet hq, hq]
  | some k =>
    obtain ⟨y, hy⟩ := h.complete_isSome hq
    obtain ⟨-, -, -, hpending, -⟩ := complete_frame hy
    rw [settle_of_complete hq hy, hpending]

theorem settle_settle (h : x.Ok) : x.settle.settle = x.settle := settle_of_quiet h.settle_pending

end CanInst.Ok

theorem settle_regs (x : CanInst) : x.settle.regs = x.regs := by
  cases hq : x.pending with
  | none => rw [settle_of_quiet hq]
  | some k =>
    cases hc : x.complete k with
    | none => simp only [CanInst.settle, hq, hc, Option.getD_none]
    | some y =>
      obtain ⟨-, -, hregs, -⟩ := complete_frame hc
      rw [settle_of_complete hq hc, hregs]

/-- In the invariant a handler's move completes what is pending, and does nothing else. -/
theorem handlerMove_settles {s : State} (hs : s.Inv) (n : InstNum) :
    handlerMove n s = .next (s.setInst n (s.inst n).settle) := by
  cases hq : (s.inst n).pending with
  | none => rw [handlerMove_quiet hs.clean hq, settle_of_quiet hq, setInst_inst]
  | some k =>
    obtain ⟨y, hy⟩ := (hs.insts n).complete_isSome hq
    rw [handlerMove_completes hs.clean hq hy, settle_of_complete hq hy]

end Sys2Proof.Machine
end

section
/-! SUPPORT. INIT_MSG_OBJECTS position by position (spec/42_message_objects.md R170, R171): the four waits, the five
setup writes and the two slot requests, one lemma per kind, with the statements about one of them. -/

namespace Sys2Proof.Machine

open Sys2Proof.Config

/-! ### Waits (R171) -/

/-- The positions of P1a, P1w, P2a and P2w (log 9). -/
def IsWait (k : Nat) : Prop := k = 0 ∨ k = 5 ∨ k = 7 ∨ k = 9

theorem initMsgObjectsMicro_wait {s : State} (h : IsWait s.seqStep) (n : InstNum) :
    initMsgObjectsMicro n s = waitNotBusy n s := by
  obtain hk | hk | hk | hk := h <;> simp only [initMsgObjectsMicro, hk]

theorem pollsExhausted_iff (limit : Option Nat) (polls : Nat) :
    pollsExhausted limit polls = true ↔ ∃ k, limit = some k ∧ k ≤ polls := by
  cases limit <;> simp [pollsExhausted]

/-- Settles O35, by what the read finds. -/
theorem waitPollsBusy : Obligations.WaitPollsBusy := by
  rintro n s k hp hpow hwait ⟨hb, hf, rfl⟩
  simp only [exec_running hb hf, microOf, initMsgObjectsMicro_wait hwait]
  refine ⟨fun hq => waitNotBusy_quiet hp hpow hq, fun hq hlimit => ?counted, fun hq hlimit => ?timeout⟩
  case counted =>
    obtain ⟨o, ho⟩ := Option.ne_none_iff_exists'.1 hq
    have hgoes : ¬ pollsExhausted s.params.pollLimit (s.polls + 1) = true := fun h => by
      obtain ⟨limit, hl, hle⟩ := (pollsExhausted_iff ..).1 h
      exact absurd (hlimit limit hl) (Nat.not_lt.2 hle)
    rw [waitNotBusy_busy hp hpow ho, if_neg hgoes]
    rfl
  case timeout =>
    obtain ⟨o, ho⟩ := Option.ne_none_iff_exists'.1 hq
    rw [waitNotBusy_busy hp hpow ho, if_pos ((pollsExhausted_iff ..).2 hlimit)]
    rfl

/-! ### Consecutive reads of BUSY = 1 -/

theorem execRun_snoc {i : Instr} {j : Nat} {s t u : State} (hj : execRun i j s = .next t) (hu : exec i t = .next u) :
    execRun i (j + 1) s = .next u := by
  induction j generalizing s with
  | zero => cases hj; simp only [execRun, hu]
  | succ j ih =>
    rw [execRun] at hj ⊢
    split at hj
    · exact ih hj
    · cases hj
    · cases hj

/-- As long as the count stays below POLL_LIMIT, a wait that always reads BUSY = 1 only counts. -/
theorem execRun_polls {n : InstNum} {s : State} {k : Nat} (hp : s.params.Wf) (hpow : (s.inst n).powered = true)
    (hq : (s.inst n).pending ≠ none) (hwait : IsWait k) (hs : s.RunsAt k) {j : Nat}
    (hlimit : ∀ limit, s.params.pollLimit = some limit → s.polls + j < limit) :
    execRun (.initMsgObjects n) j s = .next { s with polls := s.polls + j } := by
  induction j with
  | zero => rfl
  | succ j ih =>
    refine execRun_snoc (ih fun limit hl => by have := hlimit limit hl; omega) ?_
    obtain ⟨-, hcounts, -⟩ := waitPollsBusy n { s with polls := s.polls + j } k hp hpow hwait hs
    exact hcounts hq hlimit

/-- Settles O36: the reads before the last one only count, and the last one finds the count at its limit. -/
theorem timeoutOnTheLimitedRead : Obligations.TimeoutOnTheLimitedRead := by
  intro n s k limit hp hpow hq hwait hs hpolls hlimit
  have hcounts (j : Nat) (hj : j < limit) : execRun (.initMsgObjects n) j s = .next { s with polls := j } := by
    have hrun := execRun_polls (j := j) hp hpow hq hwait hs fun l hl => by
      rw [hlimit] at hl
      cases hl
      rwa [hpolls, Nat.zero_add]
    rwa [hpolls, Nat.zero_add] at hrun
  have hpos : 1 ≤ limit := by simpa [hlimit] using hp.pollLimit
  refine ⟨hcounts, ?_⟩
  obtain ⟨m, rfl⟩ := Nat.exists_eq_add_of_le' hpos
  obtain ⟨-, -, htimeout⟩ := waitPollsBusy n { s with polls := m } k hp hpow hwait hs
  exact execRun_snoc (hcounts m (Nat.lt_succ_self m)) (htimeout hq ⟨m + 1, hlimit, le_rfl⟩)

/-- Settles O37: without a POLL_LIMIT the count stays below every limit. -/
theorem stuckHandlerHangsTheCommand : Obligations.StuckHandlerHangsTheCommand :=
  fun _ _ _ _ hp hpow hq hwait hs hlimit =>
    execRun_polls hp hpow hq hwait hs fun limit hl => by simp [hlimit] at hl

/-! ### Setup writes (R170) -/

/-- The setup writes of the two passes: at position `k` the value `v` is written to `r`, and `next` moves on. -/
inductive SetupWrite : (k : Nat) → (r : Reg) → (v : Word) → (next : State → State) → Prop where
  | p1b : SetupWrite 1 .if1cmsk cmskWrite State.advance
  | p1c : SetupWrite 2 .if1arb1 0 State.advance
  | p1d : SetupWrite 3 .if1arb2 0 State.advance
  | p1e : SetupWrite 4 .if1mctl 0 (fun t => t.startPass .one p1w)
  | p2b : SetupWrite 8 .if1cmsk cmskClear (fun t => t.startPass .two p2w)

/-- The peripheral's register written, and nothing else. -/
def State.regWritten (s : State) (n : InstNum) (r : Reg) (v : Word) : State :=
  s.setInst n ((s.inst n).store s.params.writeProtect r v)

@[simp] theorem regWritten_inst_self (s : State) (n : InstNum) (r : Reg) (v : Word) :
    (s.regWritten n r v).inst n = (s.inst n).store s.params.writeProtect r v := inst_setInst_self ..

theorem regWritten_sameOthers (s : State) (n : InstNum) (r : Reg) (v : Word) : SameOthers n s (s.regWritten n r v) :=
  fun _ hm => inst_setInst_ne s _ hm

theorem regWritten_sameTransfer (s : State) (n : InstNum) (r : Reg) (v : Word) :
    SameTransfer n s (s.regWritten n r v) := by
  simp [SameTransfer]

theorem regWritten_sameMemoryBut (s : State) (n : InstNum) (r : Reg) (v : Word) :
    SameMemoryBut n [r] s (s.regWritten n r v) :=
  sameMemoryBut_of_reads (regWritten_sameOthers s n r v) rfl (by simp)
    fun r' hr' => by rw [regWritten_inst_self, read_store_ne _ _ (by simpa using hr')]

namespace SetupWrite

variable {k : Nat} {r : Reg} {v : Word} {next : State → State} (h : SetupWrite k r v next)
include h

theorem isIf1 : r.isIf1 = true ∧ r ≠ .if1crq := by
  cases h <;> decide

/-- The value lies within the register's bits. -/
theorem value_writable : v &&& r.writable = v := by
  cases h <;> decide

theorem micro {s : State} (hk : s.seqStep = k) (n : InstNum) :
    initMsgObjectsMicro n s = withWrite n r v next s := by
  cases h <;> simp only [initMsgObjectsMicro, hk]

theorem runs {s : State} (hp : s.params.Wf) {n : InstNum} (hpow : (s.inst n).powered = true)
    (hq : (s.inst n).pending = none) (hs : s.RunsAt k) :
    exec (.initMsgObjects n) s = .next (next (s.regWritten n r v)) := by
  obtain ⟨hb, hf, hk⟩ := hs
  obtain ⟨-, hr⟩ := h.isIf1
  exact (exec_running hb hf _).trans ((h.micro hk n).trans (withWrite_next hp hpow hf hr (fun _ => hq) v next))

/-- The register reads the value afterwards. -/
theorem read_self (x : CanInst) (p : Bool) : (x.store p r v).read r = v := by
  obtain ⟨hif1, hr⟩ := h.isIf1
  rw [read_store_of_not_timing x p (isTiming_of_isIf1 hif1) hr, h.value_writable]

/-- To move on touches `step` and the loop registers alone. -/
theorem next_eq (u : State) : ∃ k' pass slot polls, next u = { u with seqStep := k', pass, slot, polls } := by
  cases h <;> exact ⟨_, _, _, _, rfl⟩

/-- What a setup write leaves alone beside the other registers. -/
theorem frame (s : State) (n : InstNum) :
    let t := next (s.regWritten n r v)
    t.cmdBusy = s.cmdBusy ∧ (t.inst n).phase = (s.inst n).phase ∧ SameTransfer n s t ∧ SameOthers n s t ∧
      SamePort s t ∧ SameResults s t ∧ t.savedCtl = s.savedCtl ∧ t.freeCtr = s.freeCtr := by
  obtain ⟨k', pass, slot, polls, hnext⟩ := h.next_eq (s.regWritten n r v)
  rw [hnext]
  have hphase : ((s.regWritten n r v).inst n).phase = (s.inst n).phase := by simp
  exact ⟨rfl, hphase, regWritten_sameTransfer s n r v, regWritten_sameOthers s n r v,
    ⟨rfl, rfl, rfl, rfl, rfl, rfl, rfl⟩, ⟨rfl, rfl, rfl, rfl, rfl⟩, rfl, rfl⟩

end SetupWrite

/-- Settles O33: each position is one `SetupWrite`, and the frame is that of all five. -/
theorem passSetupWrites : Obligations.PassSetupWrites := by
  intro n s hp hpow hq
  have hmem (r : Reg) (v : Word) := regWritten_sameMemoryBut s n r v
  have hread {k r v next} (h : SetupWrite k r v next) : ((s.regWritten n r v).inst n).read r = v := by
    rw [regWritten_inst_self, h.read_self]
  have hruns {k r v next} (h : SetupWrite k r v next) := h.runs (n := n) hp hpow hq
  refine ⟨fun hs => ?p1b, fun hs => ?p1c, fun hs => ?p1d, fun hs => ?p1e, fun hs => ?p2b, fun t hs ht => ?frame⟩
  case frame =>
    obtain ⟨k, r, v, next, h, hs⟩ : ∃ k r v next, SetupWrite k r v next ∧ s.RunsAt k := by
      obtain hs | hs | hs | hs | hs := hs
      exacts [⟨_, _, _, _, .p1b, hs⟩, ⟨_, _, _, _, .p1c, hs⟩, ⟨_, _, _, _, .p1d, hs⟩, ⟨_, _, _, _, .p1e, hs⟩,
        ⟨_, _, _, _, .p2b, hs⟩]
    obtain rfl : next (s.regWritten n r v) = t := Host.Outcome.next.inj ((hruns h hs).symm.trans ht)
    exact (h.frame s n).2
  all_goals obtain ⟨hb, hf, hk⟩ := id hs
  case p1b => exact ⟨_, hruns .p1b hs, ⟨hb, hf, congrArg _ hk⟩, hread .p1b, hmem _ _⟩
  case p1c => exact ⟨_, hruns .p1c hs, ⟨hb, hf, congrArg _ hk⟩, hread .p1c, hmem _ _⟩
  case p1d => exact ⟨_, hruns .p1d hs, ⟨hb, hf, congrArg _ hk⟩, hread .p1d, hmem _ _⟩
  case p1e => exact ⟨_, hruns .p1e hs, ⟨hb, hf, rfl⟩, hread .p1e, rfl, rfl, rfl, hmem _ _⟩
  case p2b => exact ⟨_, hruns .p2b hs, ⟨hb, hf, rfl⟩, hread .p2b, rfl, rfl, rfl, hmem _ _⟩

/-! ### Slot requests (R170, R172) -/

/-- The slot requests of the two passes: at position `k` the transfer of the slot is requested, the next slot's wait is
`wait`, and `after` leaves the pass. -/
inductive SlotRequest : (k : Nat) → (wait : Nat) → (after : State → State) → Prop where
  | p1r : SlotRequest 6 p1w (fun u => u.enterWait p2a)
  | p2r : SlotRequest 10 p2w (fun u => u.finish statusOk)

/-- The peripheral with the transfer of object `o` requested. -/
def CanInst.requested (x : CanInst) (p : Bool) (o : ObjIdx) : CanInst :=
  (x.store p .if1crq (BitVec.ofNat 32 (o.val + 1))).setPending (some o)

@[simp] theorem requested_powered (x : CanInst) (p : Bool) (o : ObjIdx) : (x.requested p o).powered = x.powered :=
  store_powered ..
@[simp] theorem requested_phase (x : CanInst) (p : Bool) (o : ObjIdx) : (x.requested p o).phase = x.phase :=
  store_phase ..
@[simp] theorem requested_pending (x : CanInst) (p : Bool) (o : ObjIdx) : (x.requested p o).pending = some o := rfl
@[simp] theorem requested_objects (x : CanInst) (p : Bool) (o : ObjIdx) : (x.requested p o).objects = x.objects :=
  store_objects ..

theorem read_requested_ne (x : CanInst) (p : Bool) (o : ObjIdx) {r : Reg} (hr : r ≠ .if1crq) :
    (x.requested p o).read r = x.read r :=
  (read_setPending _ _ hr).trans (read_store_ne x p hr _)

theorem requested_if1crq (x : CanInst) (p : Bool) (o : ObjIdx) :
    (x.requested p o).regs.if1crq = BitVec.ofNat 32 (o.val + 1) &&& Reg.if1crq.writable :=
  store_if1crq x p _

theorem toNat_read_requested_if1crq (x : CanInst) (p : Bool) (o : ObjIdx) :
    ((x.requested p o).read .if1crq).toNat = 2 ^ 15 + (o.val + 1) := by
  have hbusy : (busyFlag (some o)).toNat = 2 ^ 15 := by simp [busyFlag]
  rw [toNat_read_if1crq, requested_if1crq, toNat_and_mnum, BitVec.toNat_ofNat, requested_pending, hbusy]
  omega

/-- The object of a slot. -/
theorem exists_objIdx_of_slot {slot : Nat} (h1 : 1 ≤ slot) (h2 : slot ≤ 32) : ∃ o : ObjIdx, slot = o.val + 1 :=
  ⟨⟨slot - 1, by omega⟩, (Nat.sub_add_cancel h1).symm⟩

namespace SlotRequest

variable {k wait : Nat} {after : State → State} (h : SlotRequest k wait after)
include h

theorem micro {s : State} (hk : s.seqStep = k) (n : InstNum) : initMsgObjectsMicro n s =
    withWrite n .if1crq (BitVec.ofNat 32 s.slot) (fun t => t.nextSlot wait after) s := by
  cases h <;> simp only [initMsgObjectsMicro, hk]

theorem runs {s : State} (hp : s.params.Wf) {n : InstNum} (hpow : (s.inst n).powered = true)
    (hq : (s.inst n).pending = none) {o : ObjIdx} (ho : s.slot = o.val + 1) (hs : s.RunsAt k) :
    exec (.initMsgObjects n) s =
      .next ((s.setInst n ((s.inst n).requested s.params.writeProtect o)).nextSlot wait after) := by
  obtain ⟨hb, hf, hk⟩ := hs
  have hobj : objectOfMnum (mnumField (BitVec.ofNat 32 s.slot)) = some o := by
    rw [ho]; exact objectOfMnum_slot (Nat.le_add_left ..) o.isLt
  rw [exec_running hb hf]
  refine (h.micro hk n).trans ((withWrite_request hp hpow hf hq hobj _).trans ?_)
  rw [ho, CanInst.requested]

/-- Where the slot loop goes is no matter of the peripherals, the port or the results. -/
theorem nextSlot_frame (u : State) : (u.nextSlot wait after).slot = u.slot + 1 ∧
    (∀ m, (u.nextSlot wait after).inst m = u.inst m) ∧ SamePort u (u.nextSlot wait after) ∧
    SameResults u (u.nextSlot wait after) ∧ (u.nextSlot wait after).savedCtl = u.savedCtl := by
  by_cases hlast : u.slot < 32
  · rw [nextSlot_more hlast]
    exact ⟨rfl, fun _ => rfl, ⟨rfl, rfl, rfl, rfl, rfl, rfl, rfl⟩, ⟨rfl, rfl, rfl, rfl, rfl⟩, rfl⟩
  · rw [nextSlot_done (Nat.not_lt.1 hlast)]
    cases h <;> exact ⟨rfl, fun _ => rfl, ⟨rfl, rfl, rfl, rfl, rfl, rfl, rfl⟩, ⟨rfl, rfl, rfl, rfl, rfl⟩, rfl⟩

end SlotRequest

/-- Settles O34: the transfer starts whatever the pass, and the slot loop goes by the slot and the pass. -/
theorem slotRequestStartsItsTransfer : Obligations.SlotRequestStartsItsTransfer := by
  intro n s hp hpow hq h1 h2 hpos
  obtain ⟨k, wait, after, h, hs⟩ : ∃ k wait after, SlotRequest k wait after ∧ s.RunsAt k :=
    hpos.elim (fun hs => ⟨_, _, _, .p1r, hs⟩) (fun hs => ⟨_, _, _, .p2r, hs⟩)
  obtain ⟨hb, hf, rfl⟩ := id hs
  obtain ⟨o, ho⟩ := exists_objIdx_of_slot h1 h2
  refine ⟨_, h.runs hp hpow hq ho hs, ?_⟩
  obtain ⟨hslot, hinst, hport, hresults, hsaved⟩ :=
    h.nextSlot_frame (s.setInst n ((s.inst n).requested s.params.writeProtect o))
  have hself := (hinst n).trans (inst_setInst_self ..)
  have hothers : SameOthers n s _ := fun m hm => (hinst m).trans (inst_setInst_ne s _ hm)
  refine ⟨by simp [hself, ho], by rw [hself, toNat_read_requested_if1crq, ho], hslot, fun hlt hk => ?next1,
    fun hlt hk => ?next2, fun heq hk => ?done1, fun heq hk => ?done2, by rw [hself, requested_objects],
    by rw [hself, requested_phase], hothers, hport, hresults, hsaved, ?memory⟩
  case memory =>
    exact sameMemoryBut_of_reads hothers hport.1 (by rw [hself, requested_powered])
      fun r hr => by rw [hself, read_requested_ne _ _ _ (by simpa using hr)]
  all_goals rw [hk] at h; cases h
  case next1 | next2 =>
    rw [nextSlot_more (s := s.setInst n _) hlt]
    exact ⟨⟨hb, hf, rfl⟩, rfl⟩
  case done1 =>
    rw [nextSlot_done (s := s.setInst n _) heq.ge]
    exact ⟨⟨hb, hf, rfl⟩, rfl⟩
  case done2 =>
    rw [nextSlot_done (s := s.setInst n _) heq.ge]
    exact ⟨rfl, rfl⟩

end Sys2Proof.Machine
end

section
/-! SUPPORT. INIT_MSG_OBJECTS under every interleaving (spec/42_message_objects.md R170, R176, R180). The idea: what the
command has achieved is stated of `settle`, the peripheral with its pending transfer completed. A handler's move does
not change it, so only the sequencer's moves have to be looked at. -/

namespace Sys2Proof.Machine

open Sys2Proof.Config

/-! ### What the command leaves alone (R180) -/

/-- The phase, CTL, BIT and BRPE, and every object's mask and data are the same. -/
structure CanInst.KeepsConfig (x y : CanInst) : Prop where
  phase : y.phase = x.phase
  regs : ∀ r : Reg, r.isIf1 = false → y.read r = x.read r
  objects : ∀ j, (y.object j).mask = (x.object j).mask ∧ (y.object j).data = (x.object j).data

namespace CanInst.KeepsConfig

theorem refl (x : CanInst) : x.KeepsConfig x := ⟨rfl, fun _ _ => rfl, fun _ => ⟨rfl, rfl⟩⟩

variable {x y : CanInst} (h : x.KeepsConfig y)
include h

theorem trans {z : CanInst} (h' : y.KeepsConfig z) : x.KeepsConfig z where
  phase := h'.phase.trans h.phase
  regs r hr := (h'.regs r hr).trans (h.regs r hr)
  objects j := ⟨(h'.objects j).1.trans (h.objects j).1, (h'.objects j).2.trans (h.objects j).2⟩

theorem store {r : Reg} (hr : r.isIf1 = true) (p : Bool) (v : Word) : x.KeepsConfig (y.store p r v) :=
  h.trans {
    phase := store_phase ..
    regs := fun r' hr' => read_store_ne y p (by rintro rfl; simp [hr] at hr') v
    objects := fun j => by simp only [CanInst.object, store_objects, and_self] }

theorem requested (p : Bool) (o : ObjIdx) : x.KeepsConfig (y.requested p o) :=
  h.trans {
    phase := requested_phase ..
    regs := fun r hr => read_requested_ne y p o (by rintro rfl; cases hr)
    objects := fun j => by simp only [CanInst.object, requested_objects, and_self] }

theorem settle (hok : y.Ok) : x.KeepsConfig y.settle := by
  refine h.trans ?_
  cases hq : y.pending with
  | none => rw [settle_of_quiet hq]; exact refl y
  | some k =>
    obtain ⟨z, hz⟩ := hok.complete_isSome hq
    obtain ⟨-, hphase, hregs, -⟩ := complete_frame hz
    rw [settle_of_complete hq hz]
    exact ⟨hphase, fun r hr => read_of_regs hregs (by rintro rfl; cases hr), complete_mask_data hz⟩

end CanInst.KeepsConfig

/-! ### What a request settles to -/

theorem read_settle {r : Reg} (x : CanInst) (hr : r ≠ .if1crq) : x.settle.read r = x.read r :=
  read_of_regs (settle_regs x) hr

/-- The IF1 arbitration and control registers are 0, as pass 1 leaves them. -/
structure CanInst.ZeroIf1 (x : CanInst) : Prop where
  arb1 : x.read .if1arb1 = 0
  arb2 : x.read .if1arb2 = 0
  mctl : x.read .if1mctl = 0

theorem CanInst.ZeroIf1.requested {x : CanInst} (h : x.ZeroIf1) (p : Bool) (o : ObjIdx) :
    (x.requested p o).ZeroIf1 where
  arb1 := (read_requested_ne x p o (by decide)).trans h.arb1
  arb2 := (read_requested_ne x p o (by decide)).trans h.arb2
  mctl := (read_requested_ne x p o (by decide)).trans h.mctl

theorem transferWrite_empty {x : CanInst} (h : x.ZeroIf1) (o : MsgObject) : (transferWrite x o).Empty := by
  simp [MsgObject.Empty, transferWrite, h.arb1, h.arb2, h.mctl]

theorem transferClear_empty {o : MsgObject} (h : o.Empty) : (transferClear o).Empty := by
  obtain ⟨h1, h2, h3⟩ := h
  exact ⟨h1, h2, by simp [transferClear, clearNewdatIntpnd, h3]⟩

/-- Either pass's request leaves its object empty: pass 1 copies zeros, pass 2 clears two bits of what is empty. -/
theorem requested_settle_empty {x : CanInst} (hzero : x.ZeroIf1) {o : ObjIdx}
    (hmask : x.read .if1cmsk = cmskWrite ∨ x.read .if1cmsk = cmskClear ∧ (x.object o).Empty) (p : Bool) :
    ((x.requested p o).settle.object o).Empty ∧ ∀ j, j ≠ o → (x.requested p o).settle.object j = x.object j := by
  have hcmsk := read_requested_ne x p o (r := .if1cmsk) (by decide)
  have hobj (j : ObjIdx) : (x.requested p o).object j = x.object j := by
    simp only [CanInst.object, requested_objects]
  obtain ⟨y, hy⟩ : ∃ y, (x.requested p o).complete o = some y := by
    obtain hw | ⟨hc, -⟩ := hmask
    · exact ⟨_, complete_write (hcmsk.trans hw) o⟩
    · exact ⟨_, complete_clear (hcmsk.trans hc) o⟩
  obtain ⟨-, -, -, -, hothers⟩ := complete_frame hy
  rw [settle_of_complete (requested_pending ..) hy]
  refine ⟨?_, fun j hj => (hothers j hj).trans (hobj j)⟩
  obtain ⟨-, ho⟩ | ⟨hc, ho⟩ := complete_object hy
  · rw [ho]
    exact transferWrite_empty (hzero.requested p o) _
  · rw [ho, hobj]
    obtain hw | ⟨-, hempty⟩ := hmask
    · exact absurd ((hcmsk.trans hw).symm.trans hc) (by decide)
    · exact transferClear_empty hempty

/-! ### What the command has achieved at each position -/

/-- At position `k` before slot `slot`: the interface registers pass 1 has written, and the objects it has emptied,
one whose transfer is still pending included. -/
structure Progress (k slot : Nat) (x : CanInst) : Prop where
  arb1 : 3 ≤ k → x.read .if1arb1 = 0
  arb2 : 4 ≤ k → x.read .if1arb2 = 0
  mctl : 5 ≤ k → x.read .if1mctl = 0
  slots : 5 ≤ k → ∀ j : ObjIdx, j.val + 1 < slot ∨ 7 ≤ k → (x.settle.object j).Empty

/-- What the command has achieved when it ends with OK (R180), one pending transfer aside. -/
structure Emptied (x : CanInst) : Prop where
  zero : x.ZeroIf1
  cmsk : x.read .if1cmsk = cmskClear
  mnum : x.regs.if1crq = 0x20
  objects : ∀ j, (x.settle.object j).Empty

namespace Progress

variable {k slot : Nat} {x : CanInst} (h : Progress k slot x)
include h

theorem settle (hok : x.Ok) : Progress k slot x.settle where
  arb1 hk := (read_settle x (by decide)).trans (h.arb1 hk)
  arb2 hk := (read_settle x (by decide)).trans (h.arb2 hk)
  mctl hk := (read_settle x (by decide)).trans (h.mctl hk)
  slots hk := by rw [hok.settle_settle]; exact h.slots hk

theorem zeroIf1 (hk : 5 ≤ k) : x.ZeroIf1 := ⟨h.arb1 (by omega), h.arb2 (by omega), h.mctl hk⟩

/-- A wait's read achieves nothing, and the position after it asks for nothing more. -/
theorem after_wait (hk : IsWait k) : Progress (k + 1) slot x := by
  have hk' : k = 0 ∨ 5 ≤ k ∧ k ≠ 6 := by unfold IsWait at hk; omega
  exact {
    arb1 := fun _ => h.arb1 (by omega)
    arb2 := fun _ => h.arb2 (by omega)
    mctl := fun _ => h.mctl (by omega)
    slots := fun _ j hj => h.slots (by omega) j (by omega) }

theorem after_setup {r : Reg} {v : Word} {next : State → State} (hw : SetupWrite k r v next) (hq : x.pending = none)
    (p : Bool) {u : State} (hu : u.seqStep = k) :
    Progress (next u).seqStep (next u).slot (x.store p r v) := by
  have hne {r' : Reg} (hr : r' ≠ r) : (x.store p r v).read r' = x.read r' := read_store_ne x p hr v
  have hself := hw.read_self x p
  have hobj (j : ObjIdx) : (x.store p r v).settle.object j = x.settle.object j := by
    rw [settle_of_quiet hq, settle_of_quiet ((store_pending ..).trans hq)]
    simp only [CanInst.object, store_objects]
  cases hw
  case p1b => constructor <;> intro hk <;> simp [hu] at hk
  case p1c =>
    refine ⟨fun _ => hself, fun hk => ?_, fun hk => ?_, fun hk => ?_⟩ <;> simp [hu] at hk
  case p1d =>
    refine ⟨fun _ => (hne (by decide)).trans (h.arb1 (by decide)), fun _ => hself, fun hk => ?_, fun hk => ?_⟩ <;>
      simp [hu] at hk
  case p1e =>
    refine ⟨fun _ => (hne (by decide)).trans (h.arb1 (by decide)),
      fun _ => (hne (by decide)).trans (h.arb2 (by decide)), fun _ => hself, fun _ j hj => ?_⟩
    simp [p1w] at hj
  case p2b =>
    exact ⟨fun _ => (hne (by decide)).trans (h.arb1 (by decide)),
      fun _ => (hne (by decide)).trans (h.arb2 (by decide)), fun _ => (hne (by decide)).trans (h.mctl (by decide)),
      fun _ j _ => hobj j ▸ h.slots (by decide) j (.inr (by decide))⟩

/-- A request empties its object too, and of the others no more is asked than before. -/
theorem objects_of_requested {o : ObjIdx} (hslot : slot = o.val + 1) (hq : x.pending = none)
    (hmask : k = 6 ∧ x.read .if1cmsk = cmskWrite ∨ k = 10 ∧ x.read .if1cmsk = cmskClear) (p : Bool) (j : ObjIdx)
    (hj : j.val + 1 < slot + 1 ∨ 7 ≤ k) : ((x.requested p o).settle.object j).Empty := by
  have hslots := h.slots (by omega)
  rw [settle_of_quiet hq] at hslots
  have hmask' : x.read .if1cmsk = cmskWrite ∨ x.read .if1cmsk = cmskClear ∧ (x.object o).Empty :=
    hmask.imp And.right fun ⟨hk, hc⟩ => ⟨hc, hslots o (.inr (by omega))⟩
  obtain ⟨hself, hothers⟩ := requested_settle_empty (h.zeroIf1 (by omega)) hmask' p
  by_cases hjo : j = o
  · rwa [hjo]
  · rw [hothers j hjo]
    have hne : j.val ≠ o.val := fun e => hjo (Fin.ext e)
    exact hslots j (by omega)

end Progress

theorem Progress.of_zeroIf1 {k slot : Nat} {x : CanInst} (hzero : x.ZeroIf1)
    (hobjects : ∀ j : ObjIdx, j.val + 1 < slot ∨ 7 ≤ k → (x.settle.object j).Empty) : Progress k slot x :=
  ⟨fun _ => hzero.arb1, fun _ => hzero.arb2, fun _ => hzero.mctl, fun _ => hobjects⟩

theorem Emptied.settle {x : CanInst} (h : Emptied x) (hok : x.Ok) : Emptied x.settle where
  zero := ⟨(read_settle x (by decide)).trans h.zero.arb1, (read_settle x (by decide)).trans h.zero.arb2,
    (read_settle x (by decide)).trans h.zero.mctl⟩
  cmsk := (read_settle x (by decide)).trans h.cmsk
  mnum := by rw [settle_regs, h.mnum]
  objects := by rw [hok.settle_settle]; exact h.objects

/-! ### The invariant of the run -/

/-- The command of peripheral `n`, which held `x₀` when it started, on its way and after its end. -/
structure InitRun (n : InstNum) (x₀ : CanInst) (s : State) : Prop where
  inv : s.Inv
  kept : x₀.KeepsConfig (s.inst n)
  running : s.cmdBusy = true →
    decode s.params.nInst s.cmd = .ok (.initMsgObjects n) ∧ Progress s.seqStep s.slot (s.inst n)
  ended : s.cmdBusy = false → s.status = 0x00 → Emptied (s.inst n)

theorem InitRun.of_running {n : InstNum} {x₀ : CanInst} {s : State} (hinv : s.Inv) (hkept : x₀.KeepsConfig (s.inst n))
    (hb : s.cmdBusy = true) (hd : decode s.params.nInst s.cmd = .ok (.initMsgObjects n))
    (hprog : Progress s.seqStep s.slot (s.inst n)) : InitRun n x₀ s where
  inv := hinv
  kept := hkept
  running _ := ⟨hd, hprog⟩
  ended hidle := absurd (hb.symm.trans hidle) (by decide)

theorem InitRun.of_ended {n : InstNum} {x₀ : CanInst} {s : State} (hinv : s.Inv) (hkept : x₀.KeepsConfig (s.inst n))
    (hb : s.cmdBusy = false) (hempty : s.status = 0x00 → Emptied (s.inst n)) : InitRun n x₀ s where
  inv := hinv
  kept := hkept
  running hb' := absurd (hb.symm.trans hb') (by decide)
  ended _ := hempty

theorem State.Inv.atStep {s : State} (hs : s.Inv) (hb : s.cmdBusy = true) {i : Instr}
    (hd : decode s.params.nInst s.cmd = .ok i) : AtStep i s := by
  obtain ⟨j, hj, hat⟩ := hs.running hb
  obtain rfl : i = j := Except.ok.inj (hd.symm.trans hj)
  exact hat

/-- Every position is a wait, a setup write or a slot request. -/
theorem position_cases {k : Nat} (hk : k ≤ 10) :
    IsWait k ∨ (∃ r v next, SetupWrite k r v next) ∨ ∃ wait after, SlotRequest k wait after := by
  match k, hk with
  | 0, _ | 5, _ | 7, _ | 9, _ => exact .inl (by unfold IsWait; decide)
  | 1, _ => exact .inr (.inl ⟨_, _, _, .p1b⟩)
  | 2, _ => exact .inr (.inl ⟨_, _, _, .p1c⟩)
  | 3, _ => exact .inr (.inl ⟨_, _, _, .p1d⟩)
  | 4, _ => exact .inr (.inl ⟨_, _, _, .p1e⟩)
  | 6, _ => exact .inr (.inr ⟨_, _, .p1r⟩)
  | 8, _ => exact .inr (.inl ⟨_, _, _, .p2b⟩)
  | 10, _ => exact .inr (.inr ⟨_, _, .p2r⟩)

/-- What holds of a peripheral and of its settled form holds of it after any handler's move. -/
theorem inst_handled {P : CanInst → Prop} {s : State} {n : InstNum} (m : InstNum) (hP : P (s.inst n))
    (hsettle : P (s.inst n).settle) : P ((s.setInst m (s.inst m).settle).inst n) := by
  rw [inst_setInst]
  split
  · next hm => rwa [← hm]
  · exact hP

/-! ### What the invariant of CANBT says at a position -/

theorem SetupWrite.pending_of_atStep {k : Nat} {r : Reg} {v : Word} {next : State → State} (h : SetupWrite k r v next)
    {n : InstNum} {s : State} (hk : s.seqStep = k) (hat : AtStep (.initMsgObjects n) s) :
    (s.inst n).pending = none := by
  obtain ⟨-, -, hquiet, -⟩ := hat
  exact hquiet (by rw [hk]; cases h <;> decide)

theorem SlotRequest.of_atStep {k wait : Nat} {after : State → State} (h : SlotRequest k wait after) {n : InstNum}
    {s : State} (hk : s.seqStep = k) (hat : AtStep (.initMsgObjects n) s) :
    (s.inst n).pending = none ∧ (1 ≤ s.slot ∧ s.slot ≤ 32) ∧
      (k = 6 ∧ (s.inst n).read .if1cmsk = cmskWrite ∨ k = 10 ∧ (s.inst n).read .if1cmsk = cmskClear) := by
  obtain ⟨-, -, hquiet, hwrite, hclear, hslot⟩ := hat
  rw [hk] at hquiet hwrite hclear hslot
  cases h
  case p1r => exact ⟨hquiet (by decide), hslot (by decide), .inl ⟨rfl, hwrite (by decide)⟩⟩
  case p2r => exact ⟨hquiet (by decide), hslot (by decide), .inr ⟨rfl, hclear (by decide)⟩⟩

/-! ### The invariant of the run is kept by every move -/

namespace InitRun

variable {n : InstNum} {x₀ : CanInst} {s : State} (h : InitRun n x₀ s)
include h

/-- A wait goes on, counts, or times out, which is no end with OK. -/
theorem of_wait (hb : s.cmdBusy = true) (hwait : IsWait s.seqStep) {t : State}
    (ht : exec (.initMsgObjects n) s = .next t) (hinv : t.Inv) : InitRun n x₀ t := by
  obtain ⟨hd, hprog⟩ := h.running hb
  obtain ⟨-, hlive, -⟩ := h.inv.atStep hb hd
  have hpow := (h.inv.insts n).powered_of_isLive hlive
  rw [exec_running hb h.inv.clean, microOf, initMsgObjectsMicro_wait hwait] at ht
  cases hq : (s.inst n).pending with
  | none =>
    rw [waitNotBusy_quiet h.inv.params hpow hq] at ht
    cases ht
    exact .of_running hinv h.kept hb hd (hprog.after_wait hwait)
  | some k =>
    rw [waitNotBusy_busy h.inv.params hpow hq] at ht
    split at ht <;> cases ht
    · exact .of_ended hinv h.kept rfl fun hok => absurd (show statusTimeout = 0x00 from hok) (by decide)
    · exact .of_running hinv h.kept hb hd hprog

/-- A setup write goes on. -/
theorem of_setup (hb : s.cmdBusy = true) {r : Reg} {v : Word} {next : State → State}
    (hw : SetupWrite s.seqStep r v next) {t : State} (ht : exec (.initMsgObjects n) s = .next t) (hinv : t.Inv) :
    InitRun n x₀ t := by
  obtain ⟨hd, hprog⟩ := h.running hb
  have hat := h.inv.atStep hb hd
  obtain ⟨-, hlive, -⟩ := id hat
  have hq := hw.pending_of_atStep rfl hat
  have hpow := (h.inv.insts n).powered_of_isLive hlive
  rw [hw.runs h.inv.params hpow hq ⟨hb, h.inv.clean, rfl⟩] at ht
  cases ht
  have hprog' := hprog.after_setup hw hq s.params.writeProtect (u := s.regWritten n r v) rfl
  have hkept := h.kept.store hw.isIf1.1 s.params.writeProtect v
  rw [← regWritten_inst_self] at hprog' hkept
  obtain ⟨k', pass, slot, polls, hnext⟩ := hw.next_eq (s.regWritten n r v)
  rw [hnext] at hinv hprog' ⊢
  exact .of_running hinv hkept hb hd hprog'

/-- A slot request goes to the next wait, or ends the command with all objects empty. -/
theorem of_request (hb : s.cmdBusy = true) {k wait : Nat} {after : State → State} (hk : s.seqStep = k)
    (hr : SlotRequest k wait after) {t : State} (ht : exec (.initMsgObjects n) s = .next t) (hinv : t.Inv) :
    InitRun n x₀ t := by
  obtain ⟨hd, hprog⟩ := h.running hb
  have hat := h.inv.atStep hb hd
  obtain ⟨-, hlive, -⟩ := id hat
  have hpow := (h.inv.insts n).powered_of_isLive hlive
  obtain ⟨hq, ⟨h1, h2⟩, hmask⟩ := hr.of_atStep hk hat
  obtain ⟨o, ho⟩ := exists_objIdx_of_slot h1 h2
  rw [hk] at hprog
  have hobjects := hprog.objects_of_requested ho hq hmask s.params.writeProtect
  have hzero := (hprog.zeroIf1 (by omega)).requested s.params.writeProtect o
  have hkept := h.kept.requested s.params.writeProtect o
  have hcmsk := read_requested_ne (s.inst n) s.params.writeProtect o (r := .if1cmsk) (by decide)
  have hmnum := requested_if1crq (s.inst n) s.params.writeProtect o
  rw [hr.runs h.inv.params hpow hq ho ⟨hb, h.inv.clean, hk⟩] at ht
  rw [← inst_setInst_self s n ((s.inst n).requested s.params.writeProtect o)] at hobjects hzero hkept hcmsk hmnum
  by_cases hlast : s.slot < 32
  · rw [nextSlot_more (s := s.setInst n _) hlast] at ht
    cases ht
    refine .of_running hinv hkept hb hd (.of_zeroIf1 hzero fun j hj => hobjects j ?_)
    cases hr
    · exact hj.imp_right fun hpast : 7 ≤ 5 => absurd hpast (by decide)
    · exact .inr (by decide)
  · rw [nextSlot_done (s := s.setInst n _) (Nat.not_lt.1 hlast)] at ht
    cases ht
    cases hr
    case p1r =>
      have hj (j : ObjIdx) : j.val + 1 < s.slot + 1 := by have := j.isLt; omega
      exact .of_running hinv hkept hb hd (.of_zeroIf1 hzero fun j _ => hobjects j (.inl (hj j)))
    case p2r =>
      have hlast32 : o.val + 1 = 32 := by omega
      rw [hlast32] at hmnum
      have hclear : (s.inst n).read .if1cmsk = cmskClear := hmask.elim (fun ⟨hk6, _⟩ => by cases hk6) And.right
      exact .of_ended hinv hkept rfl fun _ =>
        ⟨hzero, hcmsk.trans hclear, hmnum, fun j => hobjects j (.inr (by decide))⟩

/-- The sequencer's move, whatever the position, and after the end. -/
theorem of_sequencerMove {t : State} (ht : sequencerMove s = .next t) (hinv : t.Inv) : InitRun n x₀ t := by
  cases hb : s.cmdBusy with
  | false =>
    have hidle : sequencerMove s = .next s := by simp [sequencerMove, h.inv.clean, hb]
    cases hidle.symm.trans ht
    exact h
  | true =>
    obtain ⟨hd, -⟩ := h.running hb
    obtain ⟨hle, -⟩ := h.inv.atStep hb hd
    rw [sequencerMove_eq_exec hb hd] at ht
    obtain hwait | ⟨r, v, next, hw⟩ | ⟨wait, after, hr⟩ := position_cases hle
    · exact h.of_wait hb hwait ht hinv
    · exact h.of_setup hb hw ht hinv
    · exact h.of_request hb rfl hr ht hinv

/-- A handler's move, of any peripheral. -/
theorem of_handlerMove {m : InstNum} {t : State} (ht : handlerMove m s = .next t) (hinv : t.Inv) :
    InitRun n x₀ t := by
  have hok := h.inv.insts n
  rw [handlerMove_settles h.inv] at ht
  cases ht
  refine ⟨hinv, inst_handled m h.kept (h.kept.settle hok), fun hb => ?_, fun hb hst => ?_⟩
  · obtain ⟨hd, hprog⟩ := h.running hb
    exact ⟨hd, inst_handled m hprog (hprog.settle hok)⟩
  · have hempty := h.ended hb hst
    exact inst_handled m hempty (hempty.settle hok)

theorem setEnv (e : List Turn) : InitRun n x₀ (s.setEnv e) := ⟨h.inv.setEnv e, h.kept, h.running, h.ended⟩

/-- One step that `env` gives to the sequencer or to a handler. -/
theorem of_step {e : Turn} {rest : List Turn} (he : s.env = e :: rest) (hmover : e = .sequencer ∨ ∃ m, e = .handler m)
    {t : State} (ht : step s = .next t) : InitRun n x₀ t := by
  have hinv := everyStepKeepsTheInvariant s t h.inv ht
  obtain rfl | ⟨m, rfl⟩ := hmover
  · exact (h.setEnv rest).of_sequencerMove ((step_of_env_sequencer he).symm.trans ht) hinv
  · exact (h.setEnv rest).of_handlerMove ((step_of_env_handler he).symm.trans ht) hinv

end InitRun

/-! ### Runs -/

theorem run_succ {M : Host.Core} {s t : M.State} (h : M.step s = .next t) (k : Nat) : M.run (k + 1) s = M.run k t := by
  rw [Host.Core.run, h]

theorem core_run_succ {s t : State} (h : step s = .next t) (k : Nat) :
    Sys2Proof.core.run (k + 1) s = Sys2Proof.core.run k t :=
  run_succ (M := Sys2Proof.core) h k

/-- A step uses up the entry of `env` that names its mover. -/
theorem step_env {s t : State} {e : Turn} {rest : List Turn} (he : s.env = e :: rest)
    (hmover : e = .sequencer ∨ ∃ m, e = .handler m) (h : step s = .next t) : t.env = rest := by
  obtain rfl | ⟨m, rfl⟩ := hmover
  · rw [step_of_env_sequencer he] at h
    obtain rfl | ⟨i, h⟩ := sequencerMove_cases h
    · rfl
    · obtain ⟨-, rfl | rfl | rfl⟩ | ⟨-, hframe⟩ := exec_cases h
      exacts [rfl, rfl, rfl, hframe.env]
  · rw [step_of_env_handler he] at h
    obtain rfl | ⟨k, x, -, rfl⟩ | rfl := handlerMove_cases h <;> rfl

/-- The invariant holds after every list of moves of the sequencer and the handlers. -/
theorem InitRun.of_run {n : InstNum} {x₀ : CanInst} {env : List Turn} :
    ∀ {s t : State}, InitRun n x₀ s → s.env = env → (∀ e ∈ env, e = .sequencer ∨ ∃ m, e = .handler m) →
      Sys2Proof.core.run env.length s = .next t → InitRun n x₀ t := by
  induction env with
  | nil =>
    intro s t h _ _ ht
    cases ht
    exact h
  | cons e rest ih =>
    intro s t h he hmovers ht
    obtain ⟨hmover, hrest⟩ := List.forall_mem_cons.1 hmovers
    obtain ⟨u, hu, -⟩ := step_inv h.inv
    exact ih (h.of_step he hmover hu) (step_env he hmover hu) hrest ((core_run_succ hu _).symm.trans ht)

/-- Settles O39: the run keeps `InitRun`, and in a quiescent state the settled peripheral is the peripheral. -/
theorem initEmptiesAllObjectsUnderEveryInterleaving : Obligations.InitEmptiesAllObjectsUnderEveryInterleaving := by
  rintro n s t hs ⟨hb, -, hk⟩ hd henv hrun ⟨-, hok⟩ ⟨hidle, hq⟩
  have hstart : InitRun n (s.inst n) s := {
    inv := hs
    kept := .refl _
    running := fun _ => ⟨hd, by constructor <;> intro h <;> omega⟩
    ended := fun hidle => absurd (hb.symm.trans hidle) (by decide) }
  have hend := hstart.of_run rfl henv hrun
  obtain ⟨hphase, hregs, hobjects⟩ := hend.kept
  obtain ⟨⟨harb1, harb2, hmctl⟩, hcmsk, hmnum, hempty⟩ := hend.ended hidle hok
  rw [settle_of_quiet hq] at hempty
  have hcrq : (t.inst n).read .if1crq = 0x20 := by simp only [CanInst.read, hmnum, hq]; rfl
  exact ⟨fun k => ⟨hempty k, hobjects k⟩, hcmsk, harb1, harb2, hmctl, hcrq, hregs .ctl rfl, hregs .bit rfl,
    hregs .brpe rfl, hphase⟩

end Sys2Proof.Machine
end

section
/-! SUPPORT. INIT_MSG_OBJECTS with a handler that completes every transfer before the sequencer's next access: vector M1
of spec/95_test_vectors.md. No wait ever reads BUSY = 1, and each move of the sequencer is one of 135. -/

namespace Sys2Proof.Machine

open Sys2Proof.Config

/-! ### How many micro-operations are left -/

/-- The micro-operations left at position `k` before slot `slot` when no wait repeats its read (R170): two for each
slot of a pass, seven outside the slot loops. -/
def microOpsLeft (k slot : Nat) : Nat :=
  match k with
  | 0 => 135
  | 1 => 134
  | 2 => 133
  | 3 => 132
  | 4 => 131
  | 5 => 66 + 2 * (33 - slot)
  | 6 => 65 + 2 * (33 - slot)
  | 7 => 66
  | 8 => 65
  | 9 => 2 * (33 - slot)
  | 10 => 2 * (33 - slot) - 1
  | _ => 0

theorem microOpsLeft_after_wait {k slot : Nat} (hk : IsWait k) (hslot : k ∈ [5, 6, 9, 10] → 1 ≤ slot ∧ slot ≤ 32) :
    microOpsLeft (k + 1) slot + 1 = microOpsLeft k slot := by
  obtain rfl | rfl | rfl | rfl := hk
  case inl | inr.inr.inl => rfl
  all_goals
    obtain ⟨-, h2⟩ := hslot (by decide)
    simp only [microOpsLeft]
    omega

theorem microOpsLeft_pos {k slot : Nat} (hk : k ≤ 10) (hslot : k ∈ [5, 6, 9, 10] → 1 ≤ slot ∧ slot ≤ 32) :
    0 < microOpsLeft k slot := by
  by_cases hloop : k = 9 ∨ k = 10
  · obtain ⟨-, h2⟩ := hslot (by obtain rfl | rfl := hloop <;> decide)
    obtain rfl | rfl := hloop <;> simp only [microOpsLeft] <;> omega
  · have hk8 : k ≤ 8 := by omega
    interval_cases k <;> simp only [microOpsLeft] <;> omega

theorem SetupWrite.microOpsLeft_next {k : Nat} {r : Reg} {v : Word} {next : State → State} (h : SetupWrite k r v next)
    {u : State} (hu : u.seqStep = k) :
    microOpsLeft (next u).seqStep (next u).slot + 1 = microOpsLeft k u.slot := by
  cases h
  case p1e | p2b => rfl
  all_goals simp [hu, microOpsLeft]

theorem SlotRequest.microOpsLeft_next {k wait : Nat} {after : State → State} (h : SlotRequest k wait after) {u : State}
    (hb : u.cmdBusy = true) (h2 : u.slot ≤ 32) :
    (u.nextSlot wait after).cmdBusy = true ∧
        microOpsLeft (u.nextSlot wait after).seqStep (u.nextSlot wait after).slot + 1 = microOpsLeft k u.slot ∨
      (u.nextSlot wait after).Ended 0x00 ∧ microOpsLeft k u.slot = 1 := by
  by_cases hlast : u.slot < 32
  · rw [nextSlot_more hlast]
    refine .inl ⟨hb, ?_⟩
    cases h <;> simp only [enterWait_seqStep, enterWait_slot, setSlot_slot, p1w, p2w, microOpsLeft] <;> omega
  · have h32 : u.slot = 32 := by omega
    rw [nextSlot_done h32.ge, h32]
    cases h
    case p1r => exact .inl ⟨hb, rfl⟩
    case p2r => exact .inr ⟨⟨rfl, rfl⟩, rfl⟩

/-! ### One micro-operation with no transfer pending -/

/-- What the run leaves alone beside its peripheral: the parameters, CMD, the mark, the results and the other
peripherals. -/
structure SameOutside (n : InstNum) (s t : State) : Prop where
  params : t.params = s.params
  cmd : t.cmd = s.cmd
  refused : t.refused = s.refused
  results : SameResults s t
  others : SameOthers n s t

theorem SameOutside.of_frames {n : InstNum} {s t : State} (hport : SamePort s t) (hresults : SameResults s t)
    (hothers : SameOthers n s t) : SameOutside n s t := by
  obtain ⟨hparams, hcmd, -, -, hrefused, -, -⟩ := hport
  exact ⟨hparams, hcmd, hrefused, hresults, hothers⟩

theorem SameOutside.trans {n : InstNum} {s t u : State} (h : SameOutside n s t) (h' : SameOutside n t u) :
    SameOutside n s u where
  params := h'.params.trans h.params
  cmd := h'.cmd.trans h.cmd
  refused := h'.refused.trans h.refused
  results := by
    obtain ⟨h1, h2, h3, h4, h5⟩ := h.results
    obtain ⟨h1', h2', h3', h4', h5'⟩ := h'.results
    exact ⟨h1'.trans h1, h2'.trans h2, h3'.trans h3, h4'.trans h4, h5'.trans h5⟩
  others m hm := (h'.others m hm).trans (h.others m hm)

theorem SameOutside.setEnv (n : InstNum) (s : State) (e : List Turn) : SameOutside n s (s.setEnv e) :=
  ⟨rfl, rfl, rfl, ⟨rfl, rfl, rfl, rfl, rfl⟩, fun _ _ => rfl⟩

theorem SameOutside.setInst (n : InstNum) (s : State) (x : CanInst) : SameOutside n s (s.setInst n x) :=
  ⟨rfl, rfl, rfl, ⟨rfl, rfl, rfl, rfl, rfl⟩, fun _ hm => inst_setInst_ne s x hm⟩

/-- `t` is one micro-operation on from `s`, or the end with OK after the last one. -/
def CountsDown (s t : State) : Prop :=
  t.cmdBusy = true ∧ microOpsLeft t.seqStep t.slot + 1 = microOpsLeft s.seqStep s.slot ∨
    t.Ended 0x00 ∧ microOpsLeft s.seqStep s.slot = 1

theorem exec_countsDown {n : InstNum} {s : State} (hs : s.Inv) (hb : s.cmdBusy = true)
    (hd : decode s.params.nInst s.cmd = .ok (.initMsgObjects n)) (hq : (s.inst n).pending = none) :
    ∃ t, exec (.initMsgObjects n) s = .next t ∧ SameOutside n s t ∧ CountsDown s t := by
  obtain ⟨hle, hlive, -, -, -, hslot⟩ := hs.atStep hb hd
  have hpow := (hs.insts n).powered_of_isLive hlive
  have hat : s.RunsAt s.seqStep := ⟨hb, hs.clean, rfl⟩
  obtain hwait | ⟨r, v, next, hw⟩ | ⟨wait, after, hr⟩ := position_cases hle
  · obtain ⟨hgoes, -⟩ := waitPollsBusy n s s.seqStep hs.params hpow hwait hat
    exact ⟨_, hgoes hq, ⟨rfl, rfl, rfl, ⟨rfl, rfl, rfl, rfl, rfl⟩, fun _ _ => rfl⟩,
      .inl ⟨hb, microOpsLeft_after_wait hwait hslot⟩⟩
  · obtain ⟨hbusy, -, -, hothers, hport, hresults, -, -⟩ := hw.frame s n
    exact ⟨_, hw.runs hs.params hpow hq hat, .of_frames hport hresults hothers,
      .inl ⟨hbusy.trans hb, hw.microOpsLeft_next (u := s.regWritten n r v) rfl⟩⟩
  · obtain ⟨-, ⟨h1, h2⟩, -⟩ := hr.of_atStep rfl (hs.atStep hb hd)
    obtain ⟨o, ho⟩ := exists_objIdx_of_slot h1 h2
    let u := s.setInst n ((s.inst n).requested s.params.writeProtect o)
    obtain ⟨-, hinst, hport, hresults, -⟩ := hr.nextSlot_frame u
    exact ⟨_, hr.runs hs.params hpow hq ho hat,
      (SameOutside.setInst n s _).trans (.of_frames hport hresults fun m _ => hinst m),
      hr.microOpsLeft_next (u := u) hb h2⟩

/-! ### The run -/

/-- The handler completes what is pending, and the sequencer does its next micro-operation. -/
theorem handler_then_sequencer {n : InstNum} {s : State} (hs : s.Inv) (hb : s.cmdBusy = true)
    (hd : decode s.params.nInst s.cmd = .ok (.initMsgObjects n)) {rest : List Turn}
    (he : s.env = .handler n :: .sequencer :: rest) :
    ∃ m t, step s = .next m ∧ step m = .next t ∧ t.Inv ∧ t.env = rest ∧ SameOutside n s t ∧ CountsDown s t := by
  let m := (s.setEnv (.sequencer :: rest)).setInst n (s.inst n).settle
  have hm : step s = .next m := (step_of_env_handler he).trans (handlerMove_settles (hs.setEnv _) n)
  have hminv := everyStepKeepsTheInvariant s m hs hm
  have hq : (m.inst n).pending = none := by rw [inst_setInst_self]; exact (hs.insts n).settle_pending
  obtain ⟨t, ht, hframe, hcount⟩ := exec_countsDown (s := m.setEnv rest) (hminv.setEnv rest) hb hd hq
  have ht' : step m = .next t :=
    (step_of_env_sequencer rfl).trans ((sequencerMove_eq_exec (s := m.setEnv rest) hb hd).trans ht)
  have hmframe : SameOutside n s (m.setEnv rest) :=
    (SameOutside.setEnv n s _).trans ((SameOutside.setInst n _ _).trans (.setEnv n m rest))
  exact ⟨m, t, hm, ht', everyStepKeepsTheInvariant m t hminv ht', step_env rfl (.inl rfl) ht', hmframe.trans hframe,
    hcount⟩

/-- By induction on the micro-operations left. -/
theorem run_with_immediate_handler {n : InstNum} {rest : List Turn} {r : Nat} :
    ∀ {s : State}, s.Inv → s.cmdBusy = true → decode s.params.nInst s.cmd = .ok (.initMsgObjects n) →
      microOpsLeft s.seqStep s.slot = r →
      s.env = (List.replicate r [Turn.handler n, Turn.sequencer]).flatten ++ rest →
      ∃ t, Sys2Proof.core.run (2 * r) s = .next t ∧ t.Inv ∧ t.Ended 0x00 ∧ t.env = rest ∧ SameOutside n s t := by
  induction r with
  | zero =>
    intro s hs hb hd hleft _
    obtain ⟨hle, -, -, -, -, hslot⟩ := hs.atStep hb hd
    exact absurd hleft (microOpsLeft_pos hle hslot).ne'
  | succ r ih =>
    intro s hs hb hd hleft he
    obtain ⟨m, t, hm, ht, htinv, hte, hframe, hcount⟩ := handler_then_sequencer hs hb hd he
    have hrun : Sys2Proof.core.run (2 * (r + 1)) s = Sys2Proof.core.run (2 * r) t :=
      (core_run_succ hm _).trans (core_run_succ ht _)
    obtain ⟨htb, htleft⟩ | ⟨hend, hone⟩ := hcount
    · have htd : decode t.params.nInst t.cmd = .ok (.initMsgObjects n) := by rw [hframe.params, hframe.cmd, hd]
      obtain ⟨u, hu, huinv, huend, hue, huframe⟩ := ih htinv htb htd (by omega) hte
      exact ⟨u, hrun.trans hu, huinv, huend, hue, hframe.trans huframe⟩
    · obtain rfl : r = 0 := by omega
      exact ⟨t, hrun, htinv, hend, hte, hframe⟩

theorem run_snoc {M : Host.Core} {k : Nat} {s t u : M.State} (ht : M.run k s = .next t) (hu : M.step t = .next u) :
    M.run (k + 1) s = .next u := by
  induction k generalizing s with
  | zero =>
    cases ht
    exact run_succ hu 0
  | succ k ih =>
    rw [Host.Core.run] at ht ⊢
    split at ht
    · exact ih ht
    · cases ht
    · cases ht

/-- Settles O40: 135 rounds of the handler and the sequencer, and the handler's move after the last request. -/
theorem initCompletesWithAnImmediateHandler : Obligations.InitCompletesWithAnImmediateHandler := by
  rintro n s hs ⟨hb, -, hk⟩ hd he
  have hleft : microOpsLeft s.seqStep s.slot = 135 := by rw [hk]; rfl
  obtain ⟨t, ht, htinv, ⟨htb, htok⟩, hte, hframe⟩ := run_with_immediate_handler hs hb hd hleft he
  let u := (t.setEnv []).setInst n (t.inst n).settle
  have hu : step t = .next u := (step_of_env_handler hte).trans (handlerMove_settles (htinv.setEnv []) n)
  have huframe : SameOutside n s u := (hframe.trans (.setEnv n t [])).trans (.setInst n _ _)
  have hq : (u.inst n).pending = none := by rw [inst_setInst_self]; exact (htinv.insts n).settle_pending
  exact ⟨u, run_snoc (M := Sys2Proof.core) ht hu, ⟨htb, htok⟩, ⟨htb, hq⟩, rfl, huframe.others, huframe.results,
    huframe.refused, htinv.clean⟩

end Sys2Proof.Machine
end

section
/-! SUPPORT. The phase table, the discarded presentation, the stop after a recorded fault, and what no step can do:
record a fault from a state of the invariant, or change a peripheral that the command or the handler is not for
(spec/60_exceptions.md R204 to R206, R213). -/

namespace Sys2Proof.Machine

/-! ### No fault from the invariant -/

/-- Settles O52: the next state that `step_inv` gives meets the invariant, which records no fault. -/
theorem noFaultIsReachable : Obligations.NoFaultIsReachable := by
  intro s hs
  obtain ⟨t, ht, hinv⟩ := step_inv hs
  exact ⟨t, ht, hinv.clean⟩

/-! ### The phase table (R204) -/

theorem Phase.isLive_iff (p : Phase) : p.isLive = true ↔ p = .initialized ∨ p = .enabled ∨ p = .disabled := by
  cases p <;> decide

/-- An acceptance writes `cmd_busy` and `step`, and `polls` only where the command begins with a wait (log 9). -/
theorem takeOf_writes (i : Instr) (s : State) :
    ∃ k, takeOf i s = { s with cmdBusy := true, seqStep := 0, polls := k } ∧
      (k = s.polls ∨ (∃ n, i = .initMsgObjects n) ∧ k = 0) := by
  cases i
  case initMsgObjects n => exact ⟨0, rfl, .inr ⟨⟨n, rfl⟩, rfl⟩⟩
  all_goals exact ⟨s.polls, rfl, .inl rfl⟩

/-- A command presented to the idle port is taken where its gate's condition holds, and refused elsewhere. -/
theorem exec_gated {i : Instr} {s : State} (hs : s.Idle) {legal : Prop}
    (hgate : gateOf i (s.inst i.inst).phase = true ↔ legal) :
    (legal → ∃ k, exec i s = .next { s with cmdBusy := true, seqStep := 0, polls := k } ∧
      (k = s.polls ∨ (∃ n, i = .initMsgObjects n) ∧ k = 0)) ∧
    (¬ legal → exec i s = .next s.refuseState) := by
  obtain ⟨hb, hf⟩ := hs
  rw [exec_presented hb hf, ← hgate]
  refine ⟨fun hopen => ?taken, fun hclosed => by rw [if_neg hclosed]⟩
  obtain ⟨k, htake, hk⟩ := takeOf_writes i s
  exact ⟨k, by rw [if_pos hopen, htake], hk⟩

/-- Settles O10, by the gate of each command. -/
theorem phaseTableGatesCommands : Obligations.PhaseTableGatesCommands := by
  intro i s hs
  cases i
  case construct n => exact exec_gated hs (Phase.allowsConstruct_iff _)
  case solve n => exact exec_gated hs (iff_true_intro rfl)
  all_goals exact exec_gated hs (Phase.isLive_iff _)

/-! ### A presentation while a command runs (R204, R206) -/

theorem hostMove_busy {s : State} (hb : s.cmdBusy = true) (c : HostCmd) : hostMove c s = .next s.discard := by
  simp [hostMove, hb]

/-- Settles O11. -/
theorem busyPresentationIsDiscarded : Obligations.BusyPresentationIsDiscarded := fun s c rest he hb =>
  (step_of_env_host he).trans (hostMove_busy (s := s.setEnv rest) hb c)

/-! ### The moves once a fault is recorded (R205, R206; log 10) -/

section Faulted

variable {s : State} {f : Fault} {fs : List Fault} (hf : s.faults = f :: fs)
include hf

theorem sequencerMove_faulted : sequencerMove s = .fault f := by
  simp [sequencerMove, hf]

theorem handlerMove_faulted (n : InstNum) : handlerMove n s = .fault f := by
  simp [handlerMove, hf]

theorem hostMove_faulted (hb : s.cmdBusy = false) (c : HostCmd) : hostMove c s = .fault f := by
  simp [hostMove, hb, hf]

/-- The one move that a recorded fault does not stop is the host's presentation to the busy port. -/
theorem step_faulted {t : State} (h : step s = .next t) :
    ∃ c rest, s.env = .host c :: rest ∧ s.cmdBusy = true ∧ t = (s.setEnv rest).discard := by
  cases he : s.env with
  | nil =>
    rw [step_of_env_nil he, sequencerMove_faulted hf] at h
    cases h
  | cons turn rest =>
    cases turn with
    | sequencer =>
      rw [step_of_env_sequencer he, sequencerMove_faulted (s := s.setEnv rest) hf] at h
      cases h
    | handler n =>
      rw [step_of_env_handler he, handlerMove_faulted (s := s.setEnv rest) hf] at h
      cases h
    | host c =>
      rw [step_of_env_host he] at h
      cases hb : s.cmdBusy with
      | false =>
        rw [hostMove_faulted (s := s.setEnv rest) hf hb] at h
        cases h
      | true =>
        rw [hostMove_busy (s := s.setEnv rest) hb] at h
        cases h
        exact ⟨c, rest, rfl, rfl, rfl⟩

end Faulted

/-- Settles O46. -/
theorem recordedFaultStopsTheSequencer : Obligations.RecordedFaultStopsTheSequencer :=
  fun i n c _ _ _ hf => ⟨exec_faulted hf i, sequencerMove_faulted hf, handlerMove_faulted hf n,
    fun hb => hostMove_faulted hf hb c, fun _ h => step_faulted hf h⟩

/-! ### The peripherals a command or a handler is not for (R213) -/

theorem exec_sameOthers {i : Instr} {s t : State} (h : exec i s = .next t) : SameOthers i.inst s t := by
  rcases exec_cases h with ⟨-, rfl | rfl | rfl⟩ | ⟨-, hframe⟩
  · exact fun m _ => accept_inst s m
  · exact fun m _ => acceptWaiting_inst s m
  · exact fun m _ => refuseState_inst s m
  · exact hframe.others

theorem handlerMove_sameOthers {n : InstNum} {s t : State} (h : handlerMove n s = .next t) : SameOthers n s t := by
  obtain rfl | ⟨k, x, -, rfl⟩ | rfl := handlerMove_cases h
  · exact fun _ _ => rfl
  · exact fun m hm => inst_setInst_ne s x hm
  · exact fun _ _ => rfl

/-- Settles O54. -/
theorem instancesAreIndependent : Obligations.InstancesAreIndependent :=
  fun _ _ => ⟨fun _ h => exec_sameOthers h, fun _ h => handlerMove_sameOthers h⟩

end Sys2Proof.Machine
end

section
/-! SUPPORT. Which STATUS codes a step writes, and which commands end with which error (spec/60_exceptions.md R200 to
R202, spec/10_state.md R42). -/

namespace Sys2Proof.Machine

/-! ### The codes of a step -/

/-- A move that ends no command leaves STATUS or writes a refusal; one that ends a command writes OK or an error. -/
def StatusMove (s t : State) : Prop :=
  (s.cmdBusy = true → t.cmdBusy = true) ∧ (t.status = s.status ∨ t.status = 0x80 ∨ t.status = 0x81) ∨
    (t.status = 0x00 ∨ t.status = 0x01 ∨ t.status = 0x02)

theorem exec_statusMove {i : Instr} {s t : State} (h : exec i s = .next t) : StatusMove s t := by
  rcases exec_cases h with ⟨-, rfl | rfl | rfl⟩ | ⟨-, hframe⟩
  · exact .inl ⟨fun _ => rfl, .inl rfl⟩
  · exact .inl ⟨fun _ => rfl, .inl rfl⟩
  · exact .inl ⟨id, .inr (.inr rfl)⟩
  · obtain ⟨hbusy, hstatus⟩ | ⟨-, -, hcode⟩ := hframe.status
    · exact .inl ⟨hbusy.trans, .inl hstatus⟩
    · exact .inr hcode

theorem hostMove_statusMove {c : HostCmd} {s t : State} (h : hostMove c s = .next t) : StatusMove s t := by
  obtain rfl | rfl | ⟨i, h⟩ := hostMove_cases h
  · exact .inl ⟨id, .inl rfl⟩
  · exact .inl ⟨id, .inr (.inl rfl)⟩
  · exact exec_statusMove (s := s.latch c) h

theorem sequencerMove_statusMove {s t : State} (h : sequencerMove s = .next t) : StatusMove s t := by
  obtain rfl | ⟨i, h⟩ := sequencerMove_cases h
  · exact .inl ⟨id, .inl rfl⟩
  · exact exec_statusMove h

theorem handlerMove_statusMove {n : InstNum} {s t : State} (h : handlerMove n s = .next t) : StatusMove s t := by
  obtain rfl | ⟨k, x, -, rfl⟩ | rfl := handlerMove_cases h <;> exact .inl ⟨id, .inl rfl⟩

theorem step_statusMove {s t : State} (h : step s = .next t) : StatusMove s t := by
  obtain ⟨e, ⟨c, h⟩ | h | ⟨n, h⟩⟩ := step_cases h
  · exact hostMove_statusMove (s := s.setEnv e) h
  · exact sequencerMove_statusMove (s := s.setEnv e) h
  · exact handlerMove_statusMove (s := s.setEnv e) h

/-- Settles O56, by whether the step can have ended a command. -/
theorem statusTakesOnlyTheFiveCodes : Obligations.StatusTakesOnlyTheFiveCodes := by
  intro s t h
  obtain ⟨hbusy, hkept⟩ | hcode := step_statusMove h
  · refine ⟨by tauto, fun hb hend => ?_⟩
    rw [hbusy hb] at hend
    cases hend
  · exact ⟨by tauto, fun _ _ => hcode⟩

/-! ### The micro-operations that end a command with OK or not at all -/

/-- The command goes on, or has ended with OK. -/
def GoesOnOrOk (s t : State) : Prop := t.cmdBusy = s.cmdBusy ∨ t.status = statusOk

theorem withRead_goesOnOrOk {n : InstNum} {r : Reg} {next : Word → State → State} {s t : State}
    (h : withRead n r next s = .next t) (hnext : ∀ v u, GoesOnOrOk u (next v u)) : GoesOnOrOk s t := by
  obtain ⟨v, rfl⟩ | ⟨f, rfl⟩ := withRead_cases h
  · exact hnext v s
  · exact .inl rfl

theorem withWrite_goesOnOrOk {n : InstNum} {r : Reg} {v : Word} {next : State → State} {s t : State}
    (hf : s.faults = []) (h : withWrite n r v next s = .next t) (hnext : ∀ u, GoesOnOrOk u (next u)) :
    GoesOnOrOk s t := by
  obtain ⟨x, rfl⟩ | ⟨x, f, rfl⟩ := withWrite_cases hf h
  · exact hnext _
  · exact .inl rfl

theorem nextSlot_goesOnOrOk (w : Nat) {after : State → State} (hafter : ∀ u, GoesOnOrOk u (after u)) (s : State) :
    GoesOnOrOk s (s.nextSlot w after) := by
  by_cases hlast : s.slot < 32
  · rw [nextSlot_more hlast]; exact .inl rfl
  · rw [nextSlot_done (not_lt.1 hlast)]; exact hafter _

theorem constructMicro_goesOnOrOk {n : InstNum} {s t : State} (hf : s.faults = []) (h : constructMicro n s = .next t) :
    GoesOnOrOk s t := by
  unfold constructMicro at h
  split at h
  · cases h; exact .inl rfl
  · cases h; exact .inl rfl
  · exact withWrite_goesOnOrOk hf h fun _ => .inl rfl
  · exact withWrite_goesOnOrOk hf h fun _ => .inl rfl
  · exact withWrite_goesOnOrOk hf h fun _ => .inl rfl
  · exact withRead_goesOnOrOk h fun _ _ => .inl rfl
  · exact withWrite_goesOnOrOk hf h fun _ => .inr rfl
  · cases h

theorem enableMicro_goesOnOrOk {n : InstNum} {s t : State} (hf : s.faults = []) (h : enableMicro n s = .next t) :
    GoesOnOrOk s t := by
  unfold enableMicro at h
  split at h
  · exact withRead_goesOnOrOk h fun _ _ => .inl rfl
  · exact withWrite_goesOnOrOk hf h fun _ => .inr rfl
  · cases h

theorem disableMicro_goesOnOrOk {n : InstNum} {s t : State} (hf : s.faults = []) (h : disableMicro n s = .next t) :
    GoesOnOrOk s t := by
  unfold disableMicro at h
  split at h
  · exact withRead_goesOnOrOk h fun _ _ => .inl rfl
  · exact withWrite_goesOnOrOk hf h fun _ => .inr rfl
  · cases h

theorem getBitTimingMicro_goesOnOrOk {n : InstNum} {s t : State} (h : getBitTimingMicro n s = .next t) :
    GoesOnOrOk s t := by
  unfold getBitTimingMicro at h
  split at h
  · exact withRead_goesOnOrOk h fun _ _ => .inl rfl
  · exact withRead_goesOnOrOk h fun _ _ => .inr rfl
  · cases h

theorem releaseMicro_goesOnOrOk {n : InstNum} {s t : State} (hf : s.faults = []) (h : releaseMicro n s = .next t) :
    GoesOnOrOk s t := by
  cases htd : s.params.teardown <;> simp only [releaseMicro, htd] at h
  case leave =>
    unfold releaseLeaveMicro at h
    split at h <;> cases h
    exact .inr rfl
  case disable =>
    unfold releaseDisableMicro at h
    split at h
    · exact withRead_goesOnOrOk h fun _ _ => .inl rfl
    · exact withWrite_goesOnOrOk hf h fun _ => .inr rfl
    · cases h
  case powerOff =>
    unfold releasePowerOffMicro at h
    split at h <;> cases h
    exact .inr rfl

/-! ### The micro-operations that can end a command with an error -/

theorem solveMicro_cases {s t : State} (h : solveMicro s = .next t) :
    GoesOnOrOk s t ∨ t.status = statusBitrateNotFound := by
  unfold solveMicro at h
  split at h
  · split at h <;> cases h
    · exact .inr rfl
    · exact .inl (.inr rfl)
  · cases h

theorem changeBaudRateMicro_cases {n : InstNum} {s t : State} (hf : s.faults = [])
    (h : changeBaudRateMicro n s = .next t) : GoesOnOrOk s t ∨ t.status = statusBitrateNotFound := by
  unfold changeBaudRateMicro at h
  split at h
  · split at h <;> cases h
    · exact .inr rfl
    · exact .inl (.inl rfl)
  · exact .inl (withRead_goesOnOrOk h fun _ _ => .inl rfl)
  · exact .inl (withWrite_goesOnOrOk hf h fun _ => .inl rfl)
  · exact .inl (withWrite_goesOnOrOk hf h fun _ => .inl rfl)
  · exact .inl (withRead_goesOnOrOk h fun _ _ => .inl rfl)
  · exact .inl (withWrite_goesOnOrOk hf h fun _ => .inr rfl)
  · cases h

/-- Only a count that reaches POLL_LIMIT ends a wait, so POLL_LIMIT is finite where one ends (R171). -/
theorem waitNotBusy_cases {n : InstNum} {s t : State} (h : waitNotBusy n s = .next t) :
    GoesOnOrOk s t ∨ t.status = statusTimeout ∧ s.params.pollLimit ≠ none := by
  obtain ⟨v, rfl⟩ | ⟨f, rfl⟩ := withRead_cases h
  · unfold pollOn
    dsimp only
    split
    · split
      · next hlimit =>
        obtain ⟨k, hk, -⟩ := (pollsExhausted_iff _ _).1 hlimit
        exact .inr ⟨rfl, Option.ne_none_iff_exists'.2 ⟨k, hk⟩⟩
      · exact .inl (.inl rfl)
    · exact .inl (.inl rfl)
  · exact .inl (.inl rfl)

theorem initMsgObjectsMicro_cases {n : InstNum} {s t : State} (hf : s.faults = [])
    (h : initMsgObjectsMicro n s = .next t) :
    GoesOnOrOk s t ∨ t.status = statusTimeout ∧ s.params.pollLimit ≠ none := by
  unfold initMsgObjectsMicro at h
  split at h
  · exact waitNotBusy_cases h
  · exact .inl (withWrite_goesOnOrOk hf h fun _ => .inl rfl)
  · exact .inl (withWrite_goesOnOrOk hf h fun _ => .inl rfl)
  · exact .inl (withWrite_goesOnOrOk hf h fun _ => .inl rfl)
  · exact .inl (withWrite_goesOnOrOk hf h fun _ => .inl rfl)
  · exact waitNotBusy_cases h
  · exact .inl (withWrite_goesOnOrOk hf h (nextSlot_goesOnOrOk _ fun _ => .inl rfl))
  · exact waitNotBusy_cases h
  · exact .inl (withWrite_goesOnOrOk hf h fun _ => .inl rfl)
  · exact waitNotBusy_cases h
  · exact .inl (withWrite_goesOnOrOk hf h (nextSlot_goesOnOrOk _ fun _ => .inr rfl))
  · cases h

/-! ### The commands an error comes from (R201, R202) -/

/-- The commands that solve for a bit rate, or divide by one. -/
def TakesRate (i : Instr) : Prop :=
  (∃ n, i = .solve n) ∨ (∃ n, i = .setBitRate n) ∨ ∃ n, i = .changeBaudRate n

theorem micro_cases {i : Instr} {s t : State} (hf : s.faults = []) (h : microOf i s = .next t) :
    GoesOnOrOk s t ∨ t.status = statusBitrateNotFound ∧ TakesRate i ∨
      t.status = statusTimeout ∧ (∃ n, i = .initMsgObjects n) ∧ s.params.pollLimit ≠ none := by
  cases i with
  | construct n => exact .inl (constructMicro_goesOnOrOk hf h)
  | solve n => exact (solveMicro_cases h).imp_right fun hcode => .inl ⟨hcode, .inl ⟨n, rfl⟩⟩
  | setBitRate n =>
    obtain ⟨-, rfl⟩ | hok := setBitRateMicro_cases hf h
    · exact .inr (.inl ⟨rfl, .inr (.inl ⟨n, rfl⟩)⟩)
    · exact .inl hok
  | changeBaudRate n =>
    exact (changeBaudRateMicro_cases hf h).imp_right fun hcode => .inl ⟨hcode, .inr (.inr ⟨n, rfl⟩)⟩
  | initMsgObjects n =>
    exact (initMsgObjectsMicro_cases hf h).imp_right fun ⟨hcode, hlimit⟩ => .inr ⟨hcode, ⟨n, rfl⟩, hlimit⟩
  | enable n => exact .inl (enableMicro_goesOnOrOk hf h)
  | disable n => exact .inl (disableMicro_goesOnOrOk hf h)
  | getBitTiming n => exact .inl (getBitTimingMicro_goesOnOrOk h)
  | release n => exact .inl (releaseMicro_goesOnOrOk hf h)

/-- Settles O58: the micro-operation that ended the command did so with OK or with an error of that command's. -/
theorem errorsComeOnlyFromTheirCommands : Obligations.ErrorsComeOnlyFromTheirCommands := by
  intro i s t hb h hend
  have hf := faults_of_exec h
  rcases micro_cases hf ((exec_running hb hf i).symm.trans h) with
    (hbusy | hok) | ⟨hcode, hrate⟩ | ⟨hcode, hinit⟩
  · exact absurd (hbusy.trans hb) (by simp [hend])
  · rw [hok]
    exact ⟨fun htimeout => absurd htimeout (by decide), fun hrate => absurd hrate (by decide)⟩
  · rw [hcode]
    exact ⟨fun htimeout => absurd htimeout (by decide), fun _ => hrate⟩
  · rw [hcode]
    exact ⟨fun _ => hinit, fun hrate => absurd hrate (by decide)⟩

end Sys2Proof.Machine
end

section
/-! SUPPORT. Who writes a peripheral's registers, phase and power state (spec/70_reset_and_hazards.md R237,
spec/20_memory.md R69), and the sequencer that waits for the host (R230). -/

namespace Sys2Proof.Machine

/-! ### The sequencer with no command to run (R230) -/

theorem sequencerMove_idle {s : State} (hs : s.Idle) : sequencerMove s = .next s := by
  obtain ⟨hb, hf⟩ := hs
  simp [sequencerMove, hb, hf]

/-- Settles O49: the reset state lists no move, runs no command and has recorded no fault. -/
theorem resetWaitsForTheHost : Obligations.ResetWaitsForTheHost :=
  (step_of_env_nil rfl).trans (sequencerMove_idle ⟨rfl, rfl⟩)

/-! ### The moves that are not the sequencer's (R69, R237) -/

/-- An idle port runs no command, so what is presented to it is only taken or refused. -/
theorem exec_presented_inst {i : Instr} {s t : State} (hb : s.cmdBusy = false) (h : exec i s = .next t) (m : InstNum) :
    t.inst m = s.inst m := by
  obtain ⟨-, rfl | rfl | rfl⟩ | ⟨hbusy, -⟩ := exec_cases h
  · exact accept_inst s m
  · exact acceptWaiting_inst s m
  · exact refuseState_inst s m
  · exact absurd hbusy (by simp [hb])

/-- The host writes nothing of any peripheral. -/
theorem hostMove_inst {c : HostCmd} {s t : State} (h : hostMove c s = .next t) (m : InstNum) :
    t.inst m = s.inst m := by
  cases hb : s.cmdBusy with
  | true =>
    rw [hostMove_busy hb] at h
    cases h
    exact discard_inst s m
  | false =>
    obtain rfl | rfl | ⟨i, h⟩ := hostMove_cases h
    · exact discard_inst s m
    · rw [refuseIllegal_inst, latch_inst]
    · rw [exec_presented_inst (s := s.latch c) hb h, latch_inst]

/-- A handler completes a transfer, which writes the object table and `pending` alone. -/
theorem handlerMove_keepsRegsPhasePower {n : InstNum} {s t : State} (h : handlerMove n s = .next t) (m : InstNum) :
    (t.inst m).regs = (s.inst m).regs ∧ (t.inst m).phase = (s.inst m).phase ∧
      (t.inst m).powered = (s.inst m).powered := by
  obtain rfl | ⟨k, x, hx, rfl⟩ | rfl := handlerMove_cases h
  · exact ⟨rfl, rfl, rfl⟩
  · obtain ⟨hpow, hphase, hregs, -⟩ := complete_frame hx
    exact ⟨inst_setInst_congr CanInst.regs hregs m, inst_setInst_congr CanInst.phase hphase m,
      inst_setInst_congr CanInst.powered hpow m⟩
  · exact ⟨rfl, rfl, rfl⟩

/-- Settles O55. -/
theorem onlyTheSequencerWritesRegisters : Obligations.OnlyTheSequencerWritesRegisters := by
  rintro s t rest (⟨c, he⟩ | ⟨n, he⟩) h m
  · rw [step_of_env_host he] at h
    rw [hostMove_inst h, setEnv_inst]
    exact ⟨rfl, rfl, rfl⟩
  · rw [step_of_env_handler he] at h
    exact handlerMove_keepsRegsPhasePower (s := s.setEnv rest) h m

end Sys2Proof.Machine
end
